-- ==== Sys2Proof/Word.lean ====
section
/-! DEFINITION. The word types of the core (00_scope.md R11): unsigned bit vectors of a stated width. -/

namespace Sys2Proof

/-- A byte is 8 bits (R11). -/
abbrev Byte := BitVec 8

/-- A "Word" of a core built with XLEN = 32 (10_state.md R18). -/
abbrev Word32 := BitVec 32

/-- A "Word" of a core built with XLEN = 64 (10_state.md R18). -/
abbrev Word64 := BitVec 64

/-- The packed control vector `CTL = rnum @ bs @ hl @ fn` (30_encoding.md R38). -/
abbrev Ctl := BitVec 11

end Sys2Proof
end

