-- ==== Sys2Proof/Config.lean ====
section
/-! DEFINITION. What is fixed when a core is constructed: the parameter XLEN (00_scope.md R8) and the constant of each
GF(2^8) multiplier (40_primitives.md R57), with the two configuration errors that refuse a construction
(60_exceptions.md R105, R106). The spec leaves no value of an evaluation open, so there is no free value here. -/

namespace Sys2Proof

/-- The core's one parameter, "a register width of `xLen` ∈ {32, 64}", fixed for the lifetime of an instance (R8). -/
inductive XLen where
  | x32
  | x64
deriving DecidableEq, Repr

/-- The width in bits that an `XLen` stands for. -/
def XLen.bits : XLen → Nat
  | .x32 => 32
  | .x64 => 64

/-- The two construction-time configuration errors, "fatal, not recoverable": no core exists afterwards (R103). -/
inductive ConfigError where
  /-- Raised by `XLen.construct` for a width outside {32, 64} (R105). Safe: nothing is built. -/
  | xlen (width : Nat)
  /-- Raised by `GfConst.construct` for a multiplier constant outside 1..15 (R106). Safe: nothing is built. -/
  | gfConstant (y : Nat)
deriving DecidableEq, Repr

/-- Choosing XLEN at construction: any width other than 32 or 64 is refused (R9, R105). -/
def XLen.construct (width : Nat) : Except ConfigError XLen :=
  if width = 32 then .ok .x32
  else if width = 64 then .ok .x64
  else .error (.xlen width)

/-- The constant of one GF(2^8) multiplier, 1..15, fixed at construction (R57). A zero constant has no term of this type. -/
structure GfConst where
  y : BitVec 4
  nonzero : y ≠ 0#4
deriving DecidableEq, Repr

/-- Choosing a multiplier's constant at construction: a constant outside 1..15 is refused (R106). -/
def GfConst.construct (y : Nat) : Except ConfigError GfConst :=
  if h : BitVec.ofNat 4 y ≠ 0#4 ∧ y < 16 then .ok ⟨BitVec.ofNat 4 y, h.1⟩
  else .error (.gfConstant y)

/-- The constants MixColumn uses beside 1, which is written as the byte itself (R57). -/
def GfConst.c2 : GfConst := ⟨0x2#4, by decide⟩
def GfConst.c3 : GfConst := ⟨0x3#4, by decide⟩
def GfConst.c9 : GfConst := ⟨0x9#4, by decide⟩
def GfConst.cB : GfConst := ⟨0xB#4, by decide⟩
def GfConst.cD : GfConst := ⟨0xD#4, by decide⟩
def GfConst.cE : GfConst := ⟨0xE#4, by decide⟩

/-- The XLEN of the core that `State.reset` constructs. DESIGN CHOICE (log 1): the spec leaves XLEN open (92 D12), and every
statement is made for states of both widths. -/
def Config.xlen : XLen := .x64

end Sys2Proof
end

