-- ==== Sys2Proof/Syntax.lean ====
section
/-! DEFINITION. The operation forms of the opcode map (30_encoding.md R46), one constructor per row of
spec/opcode_table.json. A form's control operands (`bs`, `rnum`) are its arguments; `rs1` and `rs2` arrive on the data ports and
`rd` leaves on one, so no form names a register (R40). -/

namespace Sys2Proof

/-- The 15 forms of a core with XLEN = 64 and the 14 forms of a core with XLEN = 32 (R46). -/
inductive Instr where
  -- XLEN = 64, AES
  | ds_64
  | dsm_64
  | es_64
  | esm_64
  | im_64
  | ks1_64 (rnum : BitVec 4)
  | ks2_64
  -- XLEN = 64, SHA-256 and SHA-512
  | sha256sig0_64
  | sha256sig1_64
  | sha256sum0_64
  | sha256sum1_64
  | sha512sig0_64
  | sha512sig1_64
  | sha512sum0_64
  | sha512sum1_64
  -- XLEN = 32, AES
  | ds_32 (bs : BitVec 2)
  | dsm_32 (bs : BitVec 2)
  | es_32 (bs : BitVec 2)
  | esm_32 (bs : BitVec 2)
  -- XLEN = 32, SHA-256 and SHA-512
  | sha256sig0_32
  | sha256sig1_32
  | sha256sum0_32
  | sha256sum1_32
  | sha512sig0l_32
  | sha512sig0h_32
  | sha512sig1l_32
  | sha512sig1h_32
  | sha512sum0r_32
  | sha512sum1r_32
deriving DecidableEq, Repr

end Sys2Proof
end

