-- ==== Sys2Proof/WellFormed.lean ====
section
/-! DEFINITION. When a form exists on a core: XLEN selects between the 32-bit and the 64-bit variants (30_encoding.md R45, R46).
Every value of `bs` and `rnum` is legal (10_state.md R16, 30_encoding.md R44), so their types say all there is to say of them. -/

namespace Sys2Proof

/-- The XLEN in whose half of the opcode map a form stands (R46). -/
def Instr.xlen : Instr → XLen
  | .ds_64 | .dsm_64 | .es_64 | .esm_64 | .im_64 | .ks1_64 _ | .ks2_64
  | .sha256sig0_64 | .sha256sig1_64 | .sha256sum0_64 | .sha256sum1_64
  | .sha512sig0_64 | .sha512sig1_64 | .sha512sum0_64 | .sha512sum1_64 => .x64
  | .ds_32 _ | .dsm_32 _ | .es_32 _ | .esm_32 _
  | .sha256sig0_32 | .sha256sig1_32 | .sha256sum0_32 | .sha256sum1_32
  | .sha512sig0l_32 | .sha512sig0h_32 | .sha512sig1l_32 | .sha512sig1h_32
  | .sha512sum0r_32 | .sha512sum1r_32 => .x32

/-- A form is well formed for a core exactly when the opcode map of the core's XLEN has it (R46). -/
def Instr.wellFormed (x : XLen) (i : Instr) : Bool := i.xlen == x

end Sys2Proof
end

