-- ==== Sys2Proof/Decode.lean ====
section
/-! DEFINITION. The encoding of a request's control fields (30_encoding.md R38 to R46): the operation codes, the control vector
CTL, the opcode map, the decoder and after it the encoder. The core decodes no instruction word; CTL is the spec's packing of the
control ports (92 D4). -/

namespace Sys2Proof

/-! ### Operation codes (R39) -/

/-- The four AES codes that both widths have (R69). -/
inductive RoundOp where
  | ds
  | dsm
  | es
  | esm
deriving DecidableEq, Repr

/-- The seven AES codes, `fn` <= 6 (R39). -/
inductive AesOp where
  | round (op : RoundOp)
  | im
  | ks1
  | ks2
deriving DecidableEq, Repr

/-- The eight SHA-2 codes, `fn` 7..14 (R39). -/
inductive ShaFn where
  | sha256sig0
  | sha256sig1
  | sha256sum0
  | sha256sum1
  | sha512sig0
  | sha512sig1
  | sha512sum0
  | sha512sum1
deriving DecidableEq, Repr

/-- The fifteen operation codes, in the two groups of R39. -/
inductive OpCode where
  | aes (op : AesOp)
  | sha (f : ShaFn)
deriving DecidableEq, Repr

/-- The numeral of each operation code (R39). -/
def OpCode.toFn : OpCode → BitVec 4
  | .aes (.round .ds)   => 0
  | .aes (.round .dsm)  => 1
  | .aes (.round .es)   => 2
  | .aes (.round .esm)  => 3
  | .aes .im            => 4
  | .aes .ks1           => 5
  | .aes .ks2           => 6
  | .sha .sha256sig0    => 7
  | .sha .sha256sig1    => 8
  | .sha .sha256sum0    => 9
  | .sha .sha256sum1    => 10
  | .sha .sha512sig0    => 11
  | .sha .sha512sig1    => 12
  | .sha .sha512sum0    => 13
  | .sha .sha512sum1    => 14

/-- The operation code a value of `fn` stands for; `fn` = 15 is none (R39, R42). -/
def OpCode.ofFn? (fn : BitVec 4) : Option OpCode :=
  match fn.toNat with
  | 0  => some (.aes (.round .ds))
  | 1  => some (.aes (.round .dsm))
  | 2  => some (.aes (.round .es))
  | 3  => some (.aes (.round .esm))
  | 4  => some (.aes .im)
  | 5  => some (.aes .ks1)
  | 6  => some (.aes .ks2)
  | 7  => some (.sha .sha256sig0)
  | 8  => some (.sha .sha256sig1)
  | 9  => some (.sha .sha256sum0)
  | 10 => some (.sha .sha256sum1)
  | 11 => some (.sha .sha512sig0)
  | 12 => some (.sha .sha512sig1)
  | 13 => some (.sha .sha512sum0)
  | 14 => some (.sha .sha512sum1)
  | _  => none

/-! ### The control vector (R38) -/

/-- `CTL = rnum @ bs @ hl @ fn` (R38). -/
def packCtl (fn : BitVec 4) (hl : Bool) (bs : BitVec 2) (rnum : BitVec 4) : Ctl :=
  rnum ++ bs ++ BitVec.ofBool hl ++ fn

/-- `fn` is CTL[3:0] (R38). -/
def ctlFn (ctl : Ctl) : BitVec 4 := ctl.extractLsb' 0 4

/-- `hl` is CTL[4], 1 = true (R38). -/
def ctlHl (ctl : Ctl) : Bool := ctl.getLsbD 4

/-- `bs` is CTL[6:5] (R38). -/
def ctlBs (ctl : Ctl) : BitVec 2 := ctl.extractLsb' 5 2

/-- `rnum` is CTL[10:7] (R38). -/
def ctlRnum (ctl : Ctl) : BitVec 4 := ctl.extractLsb' 7 4

/-! ### The opcode map (R46) -/

/-- One row of the opcode map: the CTL value that selects a form, the CTL bits that selection depends on, and the form with its
control operands read from CTL (R46). -/
structure OpcodeRow where
  value : Ctl
  mask  : Ctl
  form  : Ctl → Instr

/-- A row is selected by a CTL value that agrees with it on the row's mask (R46). -/
def OpcodeRow.selects (r : OpcodeRow) (ctl : Ctl) : Bool := ctl &&& r.mask == r.value

/-- The opcode map of each XLEN, row by row (R46). -/
def opcodeMap : XLen → List OpcodeRow
  | .x64 =>
    [ ⟨0x000, 0x00F, fun _ => .ds_64⟩,
      ⟨0x001, 0x00F, fun _ => .dsm_64⟩,
      ⟨0x002, 0x00F, fun _ => .es_64⟩,
      ⟨0x003, 0x00F, fun _ => .esm_64⟩,
      ⟨0x004, 0x00F, fun _ => .im_64⟩,
      ⟨0x005, 0x00F, fun ctl => .ks1_64 (ctlRnum ctl)⟩,
      ⟨0x006, 0x00F, fun _ => .ks2_64⟩,
      ⟨0x007, 0x00F, fun _ => .sha256sig0_64⟩,
      ⟨0x008, 0x00F, fun _ => .sha256sig1_64⟩,
      ⟨0x009, 0x00F, fun _ => .sha256sum0_64⟩,
      ⟨0x00A, 0x00F, fun _ => .sha256sum1_64⟩,
      ⟨0x00B, 0x00F, fun _ => .sha512sig0_64⟩,
      ⟨0x00C, 0x00F, fun _ => .sha512sig1_64⟩,
      ⟨0x00D, 0x00F, fun _ => .sha512sum0_64⟩,
      ⟨0x00E, 0x00F, fun _ => .sha512sum1_64⟩ ]
  | .x32 =>
    [ ⟨0x000, 0x00F, fun ctl => .ds_32 (ctlBs ctl)⟩,
      ⟨0x001, 0x00F, fun ctl => .dsm_32 (ctlBs ctl)⟩,
      ⟨0x002, 0x00F, fun ctl => .es_32 (ctlBs ctl)⟩,
      ⟨0x003, 0x00F, fun ctl => .esm_32 (ctlBs ctl)⟩,
      ⟨0x007, 0x00F, fun _ => .sha256sig0_32⟩,
      ⟨0x008, 0x00F, fun _ => .sha256sig1_32⟩,
      ⟨0x009, 0x00F, fun _ => .sha256sum0_32⟩,
      ⟨0x00A, 0x00F, fun _ => .sha256sum1_32⟩,
      ⟨0x00B, 0x01F, fun _ => .sha512sig0l_32⟩,
      ⟨0x01B, 0x01F, fun _ => .sha512sig0h_32⟩,
      ⟨0x00C, 0x01F, fun _ => .sha512sig1l_32⟩,
      ⟨0x01C, 0x01F, fun _ => .sha512sig1h_32⟩,
      ⟨0x00D, 0x00F, fun _ => .sha512sum0r_32⟩,
      ⟨0x00E, 0x00F, fun _ => .sha512sum1r_32⟩ ]

/-! ### The decoder -/

/-- The one error of an evaluation, with the `fn` it records (60_exceptions.md R107, R108). -/
structure InvalidOperation where
  fn : BitVec 4
deriving DecidableEq, Repr

/-- The form a core of a given XLEN runs for a control vector. `fn` = 15 at either XLEN, and `fn` in {4, 5, 6} at XLEN = 32, are
rejected as InvalidOperation(fn) (R42, R43). Fields the XLEN does not read are don't-care (R41). -/
def decode (x : XLen) (ctl : Ctl) : Except InvalidOperation Instr :=
  match x with
  | .x64 =>
    match (ctlFn ctl).toNat with
    | 0  => .ok .ds_64
    | 1  => .ok .dsm_64
    | 2  => .ok .es_64
    | 3  => .ok .esm_64
    | 4  => .ok .im_64
    | 5  => .ok (.ks1_64 (ctlRnum ctl))
    | 6  => .ok .ks2_64
    | 7  => .ok .sha256sig0_64
    | 8  => .ok .sha256sig1_64
    | 9  => .ok .sha256sum0_64
    | 10 => .ok .sha256sum1_64
    | 11 => .ok .sha512sig0_64
    | 12 => .ok .sha512sig1_64
    | 13 => .ok .sha512sum0_64
    | 14 => .ok .sha512sum1_64
    | _  => .error ⟨ctlFn ctl⟩
  | .x32 =>
    match (ctlFn ctl).toNat with
    | 0  => .ok (.ds_32 (ctlBs ctl))
    | 1  => .ok (.dsm_32 (ctlBs ctl))
    | 2  => .ok (.es_32 (ctlBs ctl))
    | 3  => .ok (.esm_32 (ctlBs ctl))
    | 7  => .ok .sha256sig0_32
    | 8  => .ok .sha256sig1_32
    | 9  => .ok .sha256sum0_32
    | 10 => .ok .sha256sum1_32
    | 11 => .ok (if ctlHl ctl then .sha512sig0h_32 else .sha512sig0l_32)
    | 12 => .ok (if ctlHl ctl then .sha512sig1h_32 else .sha512sig1l_32)
    | 13 => .ok .sha512sum0r_32
    | 14 => .ok .sha512sum1r_32
    | _  => .error ⟨ctlFn ctl⟩

/-- Why a word is no request. -/
inductive WordError where
  /-- The word has a bit above CTL[10], where no control port is (R38). DESIGN CHOICE (log 5), safe: rejected. -/
  | notControlVector (word : Nat)
  /-- The word is a control vector whose `fn` the core's XLEN does not define (R42, R43). -/
  | invalidOperation (e : InvalidOperation)
deriving DecidableEq, Repr

/-- The decoder on any bits: a word numbered as the opcode table numbers CTL. -/
def decodeWord (x : XLen) (w : Nat) : Except WordError Instr :=
  if w < 2 ^ 11 then
    match decode x (BitVec.ofNat 11 w) with
    | .ok i => .ok i
    | .error e => .error (.invalidOperation e)
  else .error (.notControlVector w)

/-- The instruction the decoder of the core that `State.reset` builds reads from a word of the opcode table. The table's rows for
the two XLENs share their CTL values, and a core has one XLEN (log 1, log 2). -/
def decodeTableWord (nbits w : Nat) : Option Instr :=
  match decodeWord Config.xlen (w % 2 ^ nbits) with
  | .ok i => some i
  | .error _ => none

/-! ### The encoder -/

/-- The control vector of a form, fields the form does not read at 0 (R46, R48). -/
def encode : Instr → Ctl
  | .ds_64          => packCtl 0 false 0 0
  | .dsm_64         => packCtl 1 false 0 0
  | .es_64          => packCtl 2 false 0 0
  | .esm_64         => packCtl 3 false 0 0
  | .im_64          => packCtl 4 false 0 0
  | .ks1_64 rnum    => packCtl 5 false 0 rnum
  | .ks2_64         => packCtl 6 false 0 0
  | .sha256sig0_64  => packCtl 7 false 0 0
  | .sha256sig1_64  => packCtl 8 false 0 0
  | .sha256sum0_64  => packCtl 9 false 0 0
  | .sha256sum1_64  => packCtl 10 false 0 0
  | .sha512sig0_64  => packCtl 11 false 0 0
  | .sha512sig1_64  => packCtl 12 false 0 0
  | .sha512sum0_64  => packCtl 13 false 0 0
  | .sha512sum1_64  => packCtl 14 false 0 0
  | .ds_32 bs       => packCtl 0 false bs 0
  | .dsm_32 bs      => packCtl 1 false bs 0
  | .es_32 bs       => packCtl 2 false bs 0
  | .esm_32 bs      => packCtl 3 false bs 0
  | .sha256sig0_32  => packCtl 7 false 0 0
  | .sha256sig1_32  => packCtl 8 false 0 0
  | .sha256sum0_32  => packCtl 9 false 0 0
  | .sha256sum1_32  => packCtl 10 false 0 0
  | .sha512sig0l_32 => packCtl 11 false 0 0
  | .sha512sig0h_32 => packCtl 11 true 0 0
  | .sha512sig1l_32 => packCtl 12 false 0 0
  | .sha512sig1h_32 => packCtl 12 true 0 0
  | .sha512sum0r_32 => packCtl 13 false 0 0
  | .sha512sum1r_32 => packCtl 14 false 0 0

/-- The CTL bits a form reads: the bits its row's mask has, and its control operand's field (R41, R46). -/
def Instr.readMask : Instr → Ctl
  | .ks1_64 _ => 0x78F
  | .ds_32 _ | .dsm_32 _ | .es_32 _ | .esm_32 _ => 0x06F
  | .sha512sig0l_32 | .sha512sig0h_32 | .sha512sig1l_32 | .sha512sig1h_32 => 0x01F
  | .ds_64 | .dsm_64 | .es_64 | .esm_64 | .im_64 | .ks2_64
  | .sha256sig0_64 | .sha256sig1_64 | .sha256sum0_64 | .sha256sum1_64
  | .sha512sig0_64 | .sha512sig1_64 | .sha512sum0_64 | .sha512sum1_64
  | .sha256sig0_32 | .sha256sig1_32 | .sha256sum0_32 | .sha256sum1_32
  | .sha512sum0r_32 | .sha512sum1r_32 => 0x00F

end Sys2Proof
end

