-- ==== Sys2Proof/Machine/State.lean ====
section
/-! DEFINITION. The state of the machine. The core itself "is stateless" (10_state.md R15): it has no register, no program
counter, no flag and no memory. What a machine around it holds between two evaluations is the value on each of its ports
(R16, R17) and the XLEN it was built with (00_scope.md R8), and nothing else. -/

namespace Sys2Proof.Machine

/-- The data ports of a core whose XLEN is `w`: `rs1` and `rs2` in, `rd` out, each XLEN bits wide (R16 to R18). `rd` is "at all
times the function of the current inputs" (R26): every operation that drives an input drives `rd` with it (Ports.lean). It is
`none` where R102 raises InvalidOperation, since there "this spec gives no value" (R17, log 8). -/
structure DataPorts (w : Nat) where
  rs1 : BitVec w
  rs2 : BitVec w
  rd  : Option (BitVec w)
deriving DecidableEq, Repr

/-- The data ports of the two cores that can be built (R8, R105): the constructor is the core's XLEN. -/
inductive Datapath where
  | x32 (p : DataPorts 32)
  | x64 (p : DataPorts 64)
deriving DecidableEq, Repr

/-- The ports of one core (R16, R17). -/
structure State where
  /-- operationCode (R16, R39). -/
  fn    : BitVec 4
  /-- halfSelect (R16). -/
  hl    : Bool
  /-- byteSelect (R16). -/
  bs    : BitVec 2
  /-- roundConstantIndex (R16). -/
  rnum  : BitVec 4
  /-- The request is valid; no computation reads it (R16, R100). -/
  valid : Bool
  /-- operand1, operand2 and result, at the core's XLEN (R16, R17). -/
  data  : Datapath
deriving DecidableEq, Repr

/-- The XLEN the core was built with (R8). -/
def State.xlen (s : State) : XLen :=
  match s.data with
  | .x32 _ => .x32
  | .x64 _ => .x64

/-- Why the machine stops with a fault. -/
inductive Fault where
  /-- InvalidOperation(fn), raised by `step` for a request whose `fn` the core's XLEN does not define: `fn` = 15 (R107), and IM,
  KS1, KS2 at XLEN = 32 (R108). It records `fn` and gives no `rd` (R110). Safe: the hardware drives some value, the model none. -/
  | invalidOperation (fn : BitVec 4)
deriving DecidableEq, Repr

/-- Why the machine gives no meaning. -/
inductive Refusal where
  /-- An instruction that `exec` has no meaning for yet. No arm of `exec` uses it. Safe. -/
  | notModelled (mnemonic : String)
  /-- Raised by the meaning of a form run on a core of the other XLEN, which has no such form (R45, R46). Safe, and `step` never
  reaches it, since the decoder reads the opcode map of the core's own XLEN. DESIGN CHOICE (log 4). -/
  | formOfOtherXlen
deriving DecidableEq, Repr

/-- A core right after construction with a given XLEN. There is no reset (R26, R121); the inputs are whatever the host drives,
all zero here (DESIGN CHOICE, log 3), and `rd` is the function of those inputs from construction on (R122): the request is DS
with zero operands, whose result 41_aes.md R70 and R78 give. -/
def State.construct : XLen → State
  | .x32 => { fn := 0, hl := false, bs := 0, rnum := 0, valid := false, data := .x32 ⟨0, 0, some 0x00000052⟩ }
  | .x64 => { fn := 0, hl := false, bs := 0, rnum := 0, valid := false, data := .x64 ⟨0, 0, some 0x5252525252525252⟩ }

/-- The machine right after reset: the core of `Config.xlen`, just constructed (R121, R122). -/
def State.reset : State := State.construct Config.xlen

end Sys2Proof.Machine
end

