-- ==== Sys2Proof/Machine/Operands.lean ====
section
/-! DEFINITION. How operands are read: the operators and byte numbering of 00_scope.md R12 and R14 and 20_memory.md R27, the
SHA-256 input and widening (42_sha2.md R84), and the control ports as the control vector (30_encoding.md R38). -/

namespace Sys2Proof.Machine

/-! ### Operators (R12) -/

/-- `rotr_W(v, n)`: the rotation of a W-bit value right by n mod W bits (R12). -/
def rotr {w : Nat} (v : BitVec w) (n : Nat) : BitVec w := (v >>> (n % w)) ||| (v <<< (w - n % w))

/-- `rotl_W(v, n) = rotr_W(v, W - (n mod W))` (R12). -/
def rotl {w : Nat} (v : BitVec w) (n : Nat) : BitVec w := rotr v (w - n % w)

/-- `lo32(v)` = `v[31:0]` (R12). -/
def lo32 (v : Word64) : Word32 := v.extractLsb' 0 32

/-- `hi32(v)` = `v[63:32]` (R12). -/
def hi32 (v : Word64) : Word32 := v.extractLsb' 32 32

/-- `hi @ lo` of two 32-bit halves (R12). -/
def concat64 (hi lo : Word32) : Word64 := hi ++ lo

/-! ### Bytes of a word, little-endian (R11, R14, R27) -/

/-- `byte_k(v)` = `v[8k+7:8k]`: byte 0 is the least-significant byte (R27). -/
def byteOf {w : Nat} (k : Nat) (v : BitVec w) : Byte := v.extractLsb' (8 * k) 8

/-- `bytesOf_4` (R14). -/
def bytesOf4 (v : Word32) : Vector Byte 4 := Vector.ofFn fun k => byteOf k.val v

/-- `bytesOf_8` (R14). -/
def bytesOf8 (v : Word64) : Vector Byte 8 := Vector.ofFn fun k => byteOf k.val v

/-- `word(s)` of four bytes (R14). -/
def word4 (s : Vector Byte 4) : Word32 := s[3] ++ s[2] ++ s[1] ++ s[0]

/-- `word(s)` of eight bytes (R14). -/
def word8 (s : Vector Byte 8) : Word64 := s[7] ++ s[6] ++ s[5] ++ s[4] ++ s[3] ++ s[2] ++ s[1] ++ s[0]

/-! ### The SHA-256 input and widening (R84) -/

/-- `Widen` at XLEN = 64: bit 31 of the 32-bit result is copied into bits 63:32 (R84). At XLEN = 32 the result is unchanged. -/
def widen64 (v : Word32) : Word64 := v.signExtend 64

/-! ### The control ports as CTL (R38) -/

/-- The control vector on the control ports. -/
def State.ctl (s : State) : Ctl := packCtl s.fn s.hl s.bs s.rnum

end Sys2Proof.Machine
end

