-- ==== Sys2Proof/Machine/Ops.lean ====
section
/-! DEFINITION. The shared operations: the leaf components of 40_primitives.md in its order, and what an evaluation does to the
machine (drive `rd`, or raise InvalidOperation). The core has no memory, so there is no memory operation. -/

namespace Sys2Proof.Machine

/-! ### BarrelShiftNetwork (R49 to R54) -/

/-- The four modes of the BarrelShiftNetwork (R49). -/
inductive ShiftMode where
  | leftShift
  | rightShift
  | leftRotate
  | rightRotate
deriving DecidableEq, Repr

/-- `shift(elements, amount, mode)` (R49): LeftRotate (R50), RightRotate (R51), LeftShift (R52), RightShift (R53). `zero` is the
zero value of the element type. -/
def barrelShift {α : Type} {n : Nat} (zero : α) (elements : Vector α n) (amount : Nat) (mode : ShiftMode) : Vector α n :=
  Vector.ofFn fun i =>
    match mode with
    | .leftRotate  => elements[(i.val + (n - amount % n)) % n]'(Nat.mod_lt _ (Nat.zero_lt_of_lt i.isLt))
    | .rightRotate => elements[(i.val + amount) % n]'(Nat.mod_lt _ (Nat.zero_lt_of_lt i.isLt))
    | .leftShift   => if amount ≤ i.val then elements[i.val - amount] else zero
    | .rightShift  => if h : i.val + amount < n then elements[i.val + amount] else zero

/-! ### GF(2^8) (R55 to R57) -/

/-- Doubling in GF(2^8) modulo 0x11B (R55). -/
def xt (v : Byte) : Byte := (v <<< 1) ^^^ (if v.getLsbD 7 then 0x1B else 0x00)

/-- GF256Multiply: the XOR of the doublings of `v` that the bits of the constant select (R56). -/
def multiply (v : Byte) (y : GfConst) : Byte :=
  (if y.y.getLsbD 0 then v else 0) ^^^ (if y.y.getLsbD 1 then xt v else 0)
    ^^^ (if y.y.getLsbD 2 then xt (xt v) else 0) ^^^ (if y.y.getLsbD 3 then xt (xt (xt v)) else 0)

/-! ### Byte substitution (R58 to R60) -/

/-- The table SBOX_FWD, one list per row: the row is the high nibble, the column the low one (R58). PRESUMED (log 6): the values
are FIPS-197's, which the spec supplies from general knowledge (93 GK1). -/
def sboxFwdRows : List (List Byte) :=
  [ [0x63, 0x7C, 0x77, 0x7B, 0xF2, 0x6B, 0x6F, 0xC5, 0x30, 0x01, 0x67, 0x2B, 0xFE, 0xD7, 0xAB, 0x76],
    [0xCA, 0x82, 0xC9, 0x7D, 0xFA, 0x59, 0x47, 0xF0, 0xAD, 0xD4, 0xA2, 0xAF, 0x9C, 0xA4, 0x72, 0xC0],
    [0xB7, 0xFD, 0x93, 0x26, 0x36, 0x3F, 0xF7, 0xCC, 0x34, 0xA5, 0xE5, 0xF1, 0x71, 0xD8, 0x31, 0x15],
    [0x04, 0xC7, 0x23, 0xC3, 0x18, 0x96, 0x05, 0x9A, 0x07, 0x12, 0x80, 0xE2, 0xEB, 0x27, 0xB2, 0x75] ] ++
  [ [0x09, 0x83, 0x2C, 0x1A, 0x1B, 0x6E, 0x5A, 0xA0, 0x52, 0x3B, 0xD6, 0xB3, 0x29, 0xE3, 0x2F, 0x84],
    [0x53, 0xD1, 0x00, 0xED, 0x20, 0xFC, 0xB1, 0x5B, 0x6A, 0xCB, 0xBE, 0x39, 0x4A, 0x4C, 0x58, 0xCF],
    [0xD0, 0xEF, 0xAA, 0xFB, 0x43, 0x4D, 0x33, 0x85, 0x45, 0xF9, 0x02, 0x7F, 0x50, 0x3C, 0x9F, 0xA8],
    [0x51, 0xA3, 0x40, 0x8F, 0x92, 0x9D, 0x38, 0xF5, 0xBC, 0xB6, 0xDA, 0x21, 0x10, 0xFF, 0xF3, 0xD2] ] ++
  [ [0xCD, 0x0C, 0x13, 0xEC, 0x5F, 0x97, 0x44, 0x17, 0xC4, 0xA7, 0x7E, 0x3D, 0x64, 0x5D, 0x19, 0x73],
    [0x60, 0x81, 0x4F, 0xDC, 0x22, 0x2A, 0x90, 0x88, 0x46, 0xEE, 0xB8, 0x14, 0xDE, 0x5E, 0x0B, 0xDB],
    [0xE0, 0x32, 0x3A, 0x0A, 0x49, 0x06, 0x24, 0x5C, 0xC2, 0xD3, 0xAC, 0x62, 0x91, 0x95, 0xE4, 0x79],
    [0xE7, 0xC8, 0x37, 0x6D, 0x8D, 0xD5, 0x4E, 0xA9, 0x6C, 0x56, 0xF4, 0xEA, 0x65, 0x7A, 0xAE, 0x08] ] ++
  [ [0xBA, 0x78, 0x25, 0x2E, 0x1C, 0xA6, 0xB4, 0xC6, 0xE8, 0xDD, 0x74, 0x1F, 0x4B, 0xBD, 0x8B, 0x8A],
    [0x70, 0x3E, 0xB5, 0x66, 0x48, 0x03, 0xF6, 0x0E, 0x61, 0x35, 0x57, 0xB9, 0x86, 0xC1, 0x1D, 0x9E],
    [0xE1, 0xF8, 0x98, 0x11, 0x69, 0xD9, 0x8E, 0x94, 0x9B, 0x1E, 0x87, 0xE9, 0xCE, 0x55, 0x28, 0xDF],
    [0x8C, 0xA1, 0x89, 0x0D, 0xBF, 0xE6, 0x42, 0x68, 0x41, 0x99, 0x2D, 0x0F, 0xB0, 0x54, 0xBB, 0x16] ]

/-- The table SBOX_INV, laid out as `sboxFwdRows` (R58). PRESUMED (log 6). -/
def sboxInvRows : List (List Byte) :=
  [ [0x52, 0x09, 0x6A, 0xD5, 0x30, 0x36, 0xA5, 0x38, 0xBF, 0x40, 0xA3, 0x9E, 0x81, 0xF3, 0xD7, 0xFB],
    [0x7C, 0xE3, 0x39, 0x82, 0x9B, 0x2F, 0xFF, 0x87, 0x34, 0x8E, 0x43, 0x44, 0xC4, 0xDE, 0xE9, 0xCB],
    [0x54, 0x7B, 0x94, 0x32, 0xA6, 0xC2, 0x23, 0x3D, 0xEE, 0x4C, 0x95, 0x0B, 0x42, 0xFA, 0xC3, 0x4E],
    [0x08, 0x2E, 0xA1, 0x66, 0x28, 0xD9, 0x24, 0xB2, 0x76, 0x5B, 0xA2, 0x49, 0x6D, 0x8B, 0xD1, 0x25] ] ++
  [ [0x72, 0xF8, 0xF6, 0x64, 0x86, 0x68, 0x98, 0x16, 0xD4, 0xA4, 0x5C, 0xCC, 0x5D, 0x65, 0xB6, 0x92],
    [0x6C, 0x70, 0x48, 0x50, 0xFD, 0xED, 0xB9, 0xDA, 0x5E, 0x15, 0x46, 0x57, 0xA7, 0x8D, 0x9D, 0x84],
    [0x90, 0xD8, 0xAB, 0x00, 0x8C, 0xBC, 0xD3, 0x0A, 0xF7, 0xE4, 0x58, 0x05, 0xB8, 0xB3, 0x45, 0x06],
    [0xD0, 0x2C, 0x1E, 0x8F, 0xCA, 0x3F, 0x0F, 0x02, 0xC1, 0xAF, 0xBD, 0x03, 0x01, 0x13, 0x8A, 0x6B] ] ++
  [ [0x3A, 0x91, 0x11, 0x41, 0x4F, 0x67, 0xDC, 0xEA, 0x97, 0xF2, 0xCF, 0xCE, 0xF0, 0xB4, 0xE6, 0x73],
    [0x96, 0xAC, 0x74, 0x22, 0xE7, 0xAD, 0x35, 0x85, 0xE2, 0xF9, 0x37, 0xE8, 0x1C, 0x75, 0xDF, 0x6E],
    [0x47, 0xF1, 0x1A, 0x71, 0x1D, 0x29, 0xC5, 0x89, 0x6F, 0xB7, 0x62, 0x0E, 0xAA, 0x18, 0xBE, 0x1B],
    [0xFC, 0x56, 0x3E, 0x4B, 0xC6, 0xD2, 0x79, 0x20, 0x9A, 0xDB, 0xC0, 0xFE, 0x78, 0xCD, 0x5A, 0xF4] ] ++
  [ [0x1F, 0xDD, 0xA8, 0x33, 0x88, 0x07, 0xC7, 0x31, 0xB1, 0x12, 0x10, 0x59, 0x27, 0x80, 0xEC, 0x5F],
    [0x60, 0x51, 0x7F, 0xA9, 0x19, 0xB5, 0x4A, 0x0D, 0x2D, 0xE5, 0x7A, 0x9F, 0x93, 0xC9, 0x9C, 0xEF],
    [0xA0, 0xE0, 0x3B, 0x4D, 0xAE, 0x2A, 0xF5, 0xB0, 0xC8, 0xEB, 0xBB, 0x3C, 0x83, 0x53, 0x99, 0x61],
    [0x17, 0x2B, 0x04, 0x7E, 0xBA, 0x77, 0xD6, 0x26, 0xE1, 0x69, 0x14, 0x63, 0x55, 0x21, 0x0C, 0x7D] ]

/-- A read of a table laid out by nibbles. The tables have all 16 rows of 16, so the default is never read. -/
def sboxRead (rows : List (List Byte)) (b : Byte) : Byte :=
  (rows.getD (b.extractLsb' 4 4).toNat []).getD (b.extractLsb' 0 4).toNat 0

/-- AESByteSubstitution (R59). -/
def substitute (b : Byte) (forward : Bool) : Byte :=
  if forward then sboxRead sboxFwdRows b else sboxRead sboxInvRows b

/-! ### Round constants (R61) -/

/-- The table RCON (R61). -/
def rconTable : List Byte :=
  [0x01, 0x02, 0x04, 0x08, 0x10, 0x20, 0x40, 0x80, 0x1B, 0x36, 0x00, 0x00, 0x00, 0x00, 0x00, 0x00]

/-- `RCON[rnum]` (R61). The table has 16 entries, so the default is never read. -/
def rcon (rnum : BitVec 4) : Byte := rconTable.getD rnum.toNat 0

/-! ### MixColumn (R62 to R65) -/

/-- mixColumn8: the column of the MixColumns matrix (or its inverse) times one byte, first-listed term in bits 31:24
(R62, 90_conflicts.md C6). -/
def mixColumn8 (b : Byte) (encrypt : Bool) : Word32 :=
  if encrypt then multiply b .c3 ++ b ++ b ++ multiply b .c2
  else multiply b .cB ++ multiply b .cD ++ multiply b .c9 ++ multiply b .cE

/-- mixColumn32, with byte 0 the least-significant byte (R63, 90_conflicts.md C1). -/
def mixColumn32 (w : Word32) (encrypt : Bool) : Word32 :=
  rotl (mixColumn8 (byteOf 0 w) encrypt) 0 ^^^ rotl (mixColumn8 (byteOf 1 w) encrypt) 8
    ^^^ rotl (mixColumn8 (byteOf 2 w) encrypt) 16 ^^^ rotl (mixColumn8 (byteOf 3 w) encrypt) 24

/-- mixColumn64: mixColumn32 of each half (R64). -/
def mixColumn64 (w : Word64) (encrypt : Bool) : Word64 :=
  concat64 (mixColumn32 (hi32 w) encrypt) (mixColumn32 (lo32 w) encrypt)

/-! ### ShiftRowsDual (R66 to R68) -/

/-- The state byte that output byte `j` takes (R66). -/
def shiftRowsIndex (encrypt : Bool) (j : Nat) : Nat :=
  let stride := if encrypt then 5 else 13
  if j < 4 then j * stride % 16 else ((j - 4) * stride + 4) % 16

/-- Byte `k` of the 16-byte state whose bytes 0..7 are `in1` and 8..15 are `in2` (R28, R66). -/
def stateByte (in1 in2 : Word64) (k : Nat) : Byte :=
  if k < 8 then byteOf k in1 else byteOf (k - 8) in2

/-- ShiftRowsDual: one half of the shifted state (R66). -/
def shiftRows (in1 in2 : Word64) (encrypt : Bool) : Word64 :=
  word8 (Vector.ofFn fun j => stateByte in1 in2 (shiftRowsIndex encrypt j.val))

/-! ### What an evaluation does (R13, R110, R126) -/

/-- `raise InvalidOperation(fn)`: the evaluation ends with no value for `rd`, and the machine records the fault with `fn` (R110).
This is all there is of an exception: nothing is saved, no mode changes and no transfer of control takes place (R113), and there is
no return from it (R114). -/
def raiseInvalidOperation (e : InvalidOperation) : Host.Outcome State Fault Refusal :=
  .fault (.invalidOperation e.fn)

/-- `rd <- f(rs1, rs2)` on a core with XLEN = 32: `rd` alone changes (R13, R21). A core with XLEN = 64 has no such form. -/
def State.drive32 (s : State) (f : Word32 → Word32 → Word32) : Host.Outcome State Fault Refusal :=
  match s.data with
  | .x32 p => .next { s with data := .x32 { p with rd := some (f p.rs1 p.rs2) } }
  | .x64 _ => .refused .formOfOtherXlen

/-- `rd <- f(rs1, rs2)` on a core with XLEN = 64: `rd` alone changes (R13, R21). A core with XLEN = 32 has no such form. -/
def State.drive64 (s : State) (f : Word64 → Word64 → Word64) : Host.Outcome State Fault Refusal :=
  match s.data with
  | .x64 p => .next { s with data := .x64 { p with rd := some (f p.rs1 p.rs2) } }
  | .x32 _ => .refused .formOfOtherXlen

end Sys2Proof.Machine
end

