-- ==== Sys2Proof/Machine/Aes32.lean ====
section
/-! DEFINITION. AESCore at XLEN = 32 (41_aes.md R69 to R74) and the meanings of DS.32, DSM.32, ES.32 and ESM.32. -/

namespace Sys2Proof.Machine

/-- Forward substitution and MixColumn are used for ES and ESM, the inverse ones for DS and DSM (R60, R69). -/
def roundEncrypts : RoundOp → Bool
  | .es | .esm => true
  | .ds | .dsm => false

/-- The codes with MixColumn: ESM and DSM (R69). -/
def roundMixes : RoundOp → Bool
  | .esm | .dsm => true
  | .es | .ds => false

/-- The common datapath of the 32-bit AES operations (R69). The rotation is the BarrelShiftNetwork's LeftRotate over the bytes of
the mixed word (R49, 90_conflicts.md C3). -/
def aes32 (op : RoundOp) (bs : BitVec 2) (rs1 rs2 : Word32) : Word32 :=
  let si := byteOf bs.toNat rs2
  let so := substitute si (roundEncrypts op)
  let mixed : Word32 := if roundMixes op then mixColumn8 so (roundEncrypts op) else so.zeroExtend 32
  rs1 ^^^ word4 (barrelShift 0 (bytesOf4 mixed) bs.toNat .leftRotate)

/-- DS.32 (R70). -/
def execDs_32 (bs : BitVec 2) (s : State) : Host.Outcome State Fault Refusal := s.drive32 (aes32 .ds bs)

/-- DSM.32 (R71). -/
def execDsm_32 (bs : BitVec 2) (s : State) : Host.Outcome State Fault Refusal := s.drive32 (aes32 .dsm bs)

/-- ES.32 (R72). -/
def execEs_32 (bs : BitVec 2) (s : State) : Host.Outcome State Fault Refusal := s.drive32 (aes32 .es bs)

/-- ESM.32 (R73). -/
def execEsm_32 (bs : BitVec 2) (s : State) : Host.Outcome State Fault Refusal := s.drive32 (aes32 .esm bs)

end Sys2Proof.Machine
end

