-- ==== Sys2Proof/Machine/Aes64.lean ====
section
/-! DEFINITION. AESCore at XLEN = 64 (41_aes.md R75 to R82): the common intermediates, computed for every AES code and then
selected, and the meanings of the seven forms. -/

namespace Sys2Proof.Machine

/-- `fn == ES or fn == ESM` (R75, step 3). -/
def aesEncrypts : AesOp → Bool
  | .round op => roundEncrypts op
  | .im | .ks1 | .ks2 => false

/-- Step 2: no rotation for `rnum` = 10 (R75). -/
def ks1Word (rnum : BitVec 4) (rs1 : Word64) : Word32 :=
  if rnum = 10 then hi32 rs1 else rotr (hi32 rs1) 8

/-- Step 5: the substitution of each of the eight bytes (R75). -/
def substituteBytes (si : Word64) (forward : Bool) : Word64 :=
  word8 (Vector.ofFn fun k => substitute (byteOf k.val si) forward)

/-- The 64-bit AES datapath, steps 1 to 9 in order (R75). Every intermediate is computed and step 9 selects one (R25). -/
def aes64 (fn : AesOp) (rnum : BitVec 4) (rs1 rs2 : Word64) : Word64 :=
  let tmp1 := hi32 rs1
  let tmp2 := ks1Word rnum rs1
  let sr   := shiftRows rs1 rs2 (aesEncrypts fn)
  let si   := if fn = .ks1 then tmp2.zeroExtend 64 else sr
  let so   := substituteBytes si (aesEncrypts fn || fn == .ks1)
  let tmp4 := lo32 so ^^^ (rcon rnum).zeroExtend 32
  let ks1  := concat64 tmp4 tmp4
  let w0   := tmp1 ^^^ lo32 rs2
  let w1   := w0 ^^^ hi32 rs2
  let ks2  := concat64 w1 w0
  match fn with
  | .round .es | .round .ds => so
  | .ks1 => ks1
  | .ks2 => ks2
  | .round .esm => mixColumn64 so true
  | .round .dsm => mixColumn64 so false
  | .im => mixColumn64 rs1 false

/-- DS.64 (R78). The `rnum` port is wired to the datapath as for every AES code. -/
def execDs_64 (s : State) : Host.Outcome State Fault Refusal := s.drive64 (aes64 (.round .ds) s.rnum)

/-- DSM.64 (R79). -/
def execDsm_64 (s : State) : Host.Outcome State Fault Refusal := s.drive64 (aes64 (.round .dsm) s.rnum)

/-- ES.64 (R76). -/
def execEs_64 (s : State) : Host.Outcome State Fault Refusal := s.drive64 (aes64 (.round .es) s.rnum)

/-- ESM.64 (R77). -/
def execEsm_64 (s : State) : Host.Outcome State Fault Refusal := s.drive64 (aes64 (.round .esm) s.rnum)

/-- IM.64 (R80). -/
def execIm_64 (s : State) : Host.Outcome State Fault Refusal := s.drive64 (aes64 .im s.rnum)

/-- KS1.64 (R81). Every `rnum` is legal, 11..15 included (R44). -/
def execKs1_64 (rnum : BitVec 4) (s : State) : Host.Outcome State Fault Refusal := s.drive64 (aes64 .ks1 rnum)

/-- KS2.64 (R82). -/
def execKs2_64 (s : State) : Host.Outcome State Fault Refusal := s.drive64 (aes64 .ks2 s.rnum)

end Sys2Proof.Machine
end

