-- ==== Sys2Proof/Machine/Sha256.lean ====
section
/-! DEFINITION. The SHA-256 functions (42_sha2.md R84 to R88) and their meanings at both XLENs. -/

namespace Sys2Proof.Machine

/-- σ0 (R85). -/
def sha256Sig0 (inb : Word32) : Word32 := rotr inb 7 ^^^ rotr inb 18 ^^^ (inb >>> 3)

/-- σ1 (R86). -/
def sha256Sig1 (inb : Word32) : Word32 := rotr inb 17 ^^^ rotr inb 19 ^^^ (inb >>> 10)

/-- Σ0 (R87). -/
def sha256Sum0 (inb : Word32) : Word32 := rotr inb 2 ^^^ rotr inb 13 ^^^ rotr inb 22

/-- Σ1 (R88). -/
def sha256Sum1 (inb : Word32) : Word32 := rotr inb 6 ^^^ rotr inb 11 ^^^ rotr inb 25

/-- A SHA-256 function on a 64-bit core: the low 32 bits of `rs1` in, the result widened by bit 31 (R84). -/
def widened (f : Word32 → Word32) (rs1 : Word64) : Word64 := widen64 (f (lo32 rs1))

/-- SHA256SIG0.32 (R85). -/
def execSha256sig0_32 (s : State) : Host.Outcome State Fault Refusal := s.drive32 fun rs1 _ => sha256Sig0 rs1

/-- SHA256SIG1.32 (R86). -/
def execSha256sig1_32 (s : State) : Host.Outcome State Fault Refusal := s.drive32 fun rs1 _ => sha256Sig1 rs1

/-- SHA256SUM0.32 (R87). -/
def execSha256sum0_32 (s : State) : Host.Outcome State Fault Refusal := s.drive32 fun rs1 _ => sha256Sum0 rs1

/-- SHA256SUM1.32 (R88). -/
def execSha256sum1_32 (s : State) : Host.Outcome State Fault Refusal := s.drive32 fun rs1 _ => sha256Sum1 rs1

/-- SHA256SIG0.64 (R85). -/
def execSha256sig0_64 (s : State) : Host.Outcome State Fault Refusal := s.drive64 fun rs1 _ => widened sha256Sig0 rs1

/-- SHA256SIG1.64 (R86). -/
def execSha256sig1_64 (s : State) : Host.Outcome State Fault Refusal := s.drive64 fun rs1 _ => widened sha256Sig1 rs1

/-- SHA256SUM0.64 (R87). -/
def execSha256sum0_64 (s : State) : Host.Outcome State Fault Refusal := s.drive64 fun rs1 _ => widened sha256Sum0 rs1

/-- SHA256SUM1.64 (R88). -/
def execSha256sum1_64 (s : State) : Host.Outcome State Fault Refusal := s.drive64 fun rs1 _ => widened sha256Sum1 rs1

end Sys2Proof.Machine
end

