-- ==== Sys2Proof/Machine/Sha512.lean ====
section
/-! DEFINITION. The SHA-512 functions: at XLEN = 64 (42_sha2.md R89 to R92), and the two-register forms at XLEN = 32
(R93 to R96), which are "a genuinely different formula, not a truncated 64-bit one". -/

namespace Sys2Proof.Machine

/-- σ0 (R89). -/
def sha512Sig0 (x : Word64) : Word64 := rotr x 1 ^^^ rotr x 8 ^^^ (x >>> 7)

/-- σ1 (R90). -/
def sha512Sig1 (x : Word64) : Word64 := rotr x 19 ^^^ rotr x 61 ^^^ (x >>> 6)

/-- Σ0 (R91). -/
def sha512Sum0 (x : Word64) : Word64 := rotr x 28 ^^^ rotr x 34 ^^^ rotr x 39

/-- Σ1 (R92). -/
def sha512Sum1 (x : Word64) : Word64 := rotr x 14 ^^^ rotr x 18 ^^^ rotr x 41

/-- One half of σ0 on a 32-bit core; the high-half form omits `b << 25` (R93). -/
def sha512Sig0Half (hl : Bool) (a b : Word32) : Word32 :=
  ((a >>> 1) ^^^ (a >>> 7) ^^^ (a >>> 8))
    ^^^ (if hl then (b <<< 31) ^^^ (b <<< 24) else (b <<< 31) ^^^ (b <<< 24) ^^^ (b <<< 25))

/-- One half of σ1 on a 32-bit core; the high-half form omits `b << 26` (R94). -/
def sha512Sig1Half (hl : Bool) (a b : Word32) : Word32 :=
  ((a <<< 3) ^^^ (a >>> 6) ^^^ (a >>> 19))
    ^^^ (if hl then (b >>> 29) ^^^ (b <<< 13) else (b >>> 29) ^^^ (b <<< 13) ^^^ (b <<< 26))

/-- One half of Σ0 on a 32-bit core (R95). -/
def sha512Sum0Half (a b : Word32) : Word32 :=
  ((a <<< 25) ^^^ (a <<< 30) ^^^ (a >>> 28)) ^^^ ((b >>> 7) ^^^ (b >>> 2) ^^^ (b <<< 4))

/-- One half of Σ1 on a 32-bit core (R96). -/
def sha512Sum1Half (a b : Word32) : Word32 :=
  ((a <<< 23) ^^^ (a >>> 14) ^^^ (a >>> 18)) ^^^ ((b >>> 9) ^^^ (b <<< 18) ^^^ (b <<< 14))

/-- SHA512SIG0.64 (R89). -/
def execSha512sig0_64 (s : State) : Host.Outcome State Fault Refusal := s.drive64 fun rs1 _ => sha512Sig0 rs1

/-- SHA512SIG1.64 (R90). -/
def execSha512sig1_64 (s : State) : Host.Outcome State Fault Refusal := s.drive64 fun rs1 _ => sha512Sig1 rs1

/-- SHA512SUM0.64 (R91). -/
def execSha512sum0_64 (s : State) : Host.Outcome State Fault Refusal := s.drive64 fun rs1 _ => sha512Sum0 rs1

/-- SHA512SUM1.64 (R92). -/
def execSha512sum1_64 (s : State) : Host.Outcome State Fault Refusal := s.drive64 fun rs1 _ => sha512Sum1 rs1

/-- SHA512SIG0L.32: the form of SHA512SIG0 with `hl` = 0 (R93). -/
def execSha512sig0l_32 (s : State) : Host.Outcome State Fault Refusal := s.drive32 (sha512Sig0Half false)

/-- SHA512SIG0H.32: the form of SHA512SIG0 with `hl` = 1 (R93). -/
def execSha512sig0h_32 (s : State) : Host.Outcome State Fault Refusal := s.drive32 (sha512Sig0Half true)

/-- SHA512SIG1L.32: the form of SHA512SIG1 with `hl` = 0 (R94). -/
def execSha512sig1l_32 (s : State) : Host.Outcome State Fault Refusal := s.drive32 (sha512Sig1Half false)

/-- SHA512SIG1H.32: the form of SHA512SIG1 with `hl` = 1 (R94). -/
def execSha512sig1h_32 (s : State) : Host.Outcome State Fault Refusal := s.drive32 (sha512Sig1Half true)

/-- SHA512SUM0R.32 (R95). -/
def execSha512sum0r_32 (s : State) : Host.Outcome State Fault Refusal := s.drive32 sha512Sum0Half

/-- SHA512SUM1R.32 (R96). -/
def execSha512sum1r_32 (s : State) : Host.Outcome State Fault Refusal := s.drive32 sha512Sum1Half

end Sys2Proof.Machine
end

