-- ==== Sys2Proof/Machine/Dispatch.lean ====
section
/-! DEFINITION. One arm per form of the opcode map (30_encoding.md R46), each a direct call of its meaning. -/

namespace Sys2Proof.Machine

def exec (i : Instr) (s : State) : Host.Outcome State Fault Refusal :=
    match i with
    -- XLEN = 64
    | .ds_64 => Sys2Proof.Machine.execDs_64 s
    | .dsm_64 => Sys2Proof.Machine.execDsm_64 s
    | .es_64 => Sys2Proof.Machine.execEs_64 s
    | .esm_64 => Sys2Proof.Machine.execEsm_64 s
    | .im_64 => Sys2Proof.Machine.execIm_64 s
    | .ks1_64 rnum => Sys2Proof.Machine.execKs1_64 rnum s
    | .ks2_64 => Sys2Proof.Machine.execKs2_64 s
    | .sha256sig0_64 => Sys2Proof.Machine.execSha256sig0_64 s
    | .sha256sig1_64 => Sys2Proof.Machine.execSha256sig1_64 s
    | .sha256sum0_64 => Sys2Proof.Machine.execSha256sum0_64 s
    | .sha256sum1_64 => Sys2Proof.Machine.execSha256sum1_64 s
    | .sha512sig0_64 => Sys2Proof.Machine.execSha512sig0_64 s
    | .sha512sig1_64 => Sys2Proof.Machine.execSha512sig1_64 s
    | .sha512sum0_64 => Sys2Proof.Machine.execSha512sum0_64 s
    | .sha512sum1_64 => Sys2Proof.Machine.execSha512sum1_64 s
    -- XLEN = 32
    | .ds_32 bs => Sys2Proof.Machine.execDs_32 bs s
    | .dsm_32 bs => Sys2Proof.Machine.execDsm_32 bs s
    | .es_32 bs => Sys2Proof.Machine.execEs_32 bs s
    | .esm_32 bs => Sys2Proof.Machine.execEsm_32 bs s
    | .sha256sig0_32 => Sys2Proof.Machine.execSha256sig0_32 s
    | .sha256sig1_32 => Sys2Proof.Machine.execSha256sig1_32 s
    | .sha256sum0_32 => Sys2Proof.Machine.execSha256sum0_32 s
    | .sha256sum1_32 => Sys2Proof.Machine.execSha256sum1_32 s
    | .sha512sig0l_32 => Sys2Proof.Machine.execSha512sig0l_32 s
    | .sha512sig0h_32 => Sys2Proof.Machine.execSha512sig0h_32 s
    | .sha512sig1l_32 => Sys2Proof.Machine.execSha512sig1l_32 s
    | .sha512sig1h_32 => Sys2Proof.Machine.execSha512sig1h_32 s
    | .sha512sum0r_32 => Sys2Proof.Machine.execSha512sum0r_32 s
    | .sha512sum1r_32 => Sys2Proof.Machine.execSha512sum1r_32 s

end Sys2Proof.Machine
end

