-- ==== Sys2Proof/Machine/CryptoDispatch.lean ====
section
/-! DEFINITION. The core as the pure function the spec gives it: the evaluation function of 43_dispatch.md R102, which branches on
the operation code, and CryptoDispatch as R98 describes the hardware, a 15-entry table of results indexed by `fn`. The machine's
`step` is related to both by statements of Certificates/Slice0/Obligations.lean. -/

namespace Sys2Proof.Machine

/-- RequestRecord: the inputs of one evaluation on a core whose XLEN is `w` (R16, R38). -/
structure Request (w : Nat) where
  fn    : BitVec 4
  hl    : Bool
  bs    : BitVec 2
  rnum  : BitVec 4
  rs1   : BitVec w
  rs2   : BitVec w
  valid : Bool
deriving DecidableEq, Repr

/-- The request on the control ports, with given operands. -/
def State.request {w : Nat} (s : State) (rs1 rs2 : BitVec w) : Request w :=
  { fn := s.fn, hl := s.hl, bs := s.bs, rnum := s.rnum, rs1 := rs1, rs2 := rs2, valid := s.valid }

/-! ### The functions by group (R102) -/

/-- `sha256` and `sha512_64` of a 64-bit core (R84 to R92). -/
def sha64 (f : ShaFn) (rs1 : Word64) : Word64 :=
  match f with
  | .sha256sig0 => widened sha256Sig0 rs1
  | .sha256sig1 => widened sha256Sig1 rs1
  | .sha256sum0 => widened sha256Sum0 rs1
  | .sha256sum1 => widened sha256Sum1 rs1
  | .sha512sig0 => sha512Sig0 rs1
  | .sha512sig1 => sha512Sig1 rs1
  | .sha512sum0 => sha512Sum0 rs1
  | .sha512sum1 => sha512Sum1 rs1

/-- `sha256` and `sha512_32` of a 32-bit core (R84 to R88, R93 to R96). -/
def sha32 (f : ShaFn) (hl : Bool) (rs1 rs2 : Word32) : Word32 :=
  match f with
  | .sha256sig0 => sha256Sig0 rs1
  | .sha256sig1 => sha256Sig1 rs1
  | .sha256sum0 => sha256Sum0 rs1
  | .sha256sum1 => sha256Sum1 rs1
  | .sha512sig0 => sha512Sig0Half hl rs1 rs2
  | .sha512sig1 => sha512Sig1Half hl rs1 rs2
  | .sha512sum0 => sha512Sum0Half rs1 rs2
  | .sha512sum1 => sha512Sum1Half rs1 rs2

/-! ### The evaluation function (R102) -/

/-- `evaluate_XLEN` for XLEN = 32; `valid` is not read (R100, R102). -/
def evaluate32 (r : Request 32) : Except InvalidOperation Word32 :=
  match OpCode.ofFn? r.fn with
  | none => .error ⟨r.fn⟩
  | some (.aes (.round op)) => .ok (aes32 op r.bs r.rs1 r.rs2)
  | some (.aes .im) => .error ⟨r.fn⟩
  | some (.aes .ks1) => .error ⟨r.fn⟩
  | some (.aes .ks2) => .error ⟨r.fn⟩
  | some (.sha f) => .ok (sha32 f r.hl r.rs1 r.rs2)

/-- `evaluate_XLEN` for XLEN = 64; `valid` is not read (R100, R102). -/
def evaluate64 (r : Request 64) : Except InvalidOperation Word64 :=
  match OpCode.ofFn? r.fn with
  | none => .error ⟨r.fn⟩
  | some (.aes op) => .ok (aes64 op r.rnum r.rs1 r.rs2)
  | some (.sha f) => .ok (sha64 f r.rs1)

/-! ### CryptoDispatch as a table (R98, R99, R101) -/

/-- The one AES computation that all seven AES entries of the 32-bit table route to: AESCore branches on the AES code itself, and
has no operation for IM, KS1 and KS2 (R74, R99). -/
def aesCore32 (r : Request 32) : Except InvalidOperation Word32 :=
  match OpCode.ofFn? r.fn with
  | some (.aes (.round op)) => .ok (aes32 op r.bs r.rs1 r.rs2)
  | _ => .error ⟨r.fn⟩

/-- The one AES computation that all seven AES entries of the 64-bit table route to (R99). -/
def aesCore64 (r : Request 64) : Except InvalidOperation Word64 :=
  match OpCode.ofFn? r.fn with
  | some (.aes op) => .ok (aes64 op r.rnum r.rs1 r.rs2)
  | _ => .error ⟨r.fn⟩

/-- `table = [aes, ... x7, sha256Sigma0, ..., sha512Sum1]` at XLEN = 32 (R98). -/
def dispatchTable32 (r : Request 32) : List (Except InvalidOperation Word32) :=
  List.replicate 7 (aesCore32 r) ++
    [ .ok (sha256Sig0 r.rs1), .ok (sha256Sig1 r.rs1), .ok (sha256Sum0 r.rs1), .ok (sha256Sum1 r.rs1),
      .ok (sha512Sig0Half r.hl r.rs1 r.rs2), .ok (sha512Sig1Half r.hl r.rs1 r.rs2),
      .ok (sha512Sum0Half r.rs1 r.rs2), .ok (sha512Sum1Half r.rs1 r.rs2) ]

/-- The same table at XLEN = 64 (R98). -/
def dispatchTable64 (r : Request 64) : List (Except InvalidOperation Word64) :=
  List.replicate 7 (aesCore64 r) ++
    [ .ok (widened sha256Sig0 r.rs1), .ok (widened sha256Sig1 r.rs1),
      .ok (widened sha256Sum0 r.rs1), .ok (widened sha256Sum1 r.rs1),
      .ok (sha512Sig0 r.rs1), .ok (sha512Sig1 r.rs1), .ok (sha512Sum0 r.rs1), .ok (sha512Sum1 r.rs1) ]

/-- "Result = `table[operationCode]`" (R98); an index the table lacks raises InvalidOperation (R101). -/
def cryptoDispatch {w : Nat} (table : List (Except InvalidOperation (BitVec w))) (fn : BitVec 4) :
    Except InvalidOperation (BitVec w) :=
  table.getD fn.toNat (.error ⟨fn⟩)

end Sys2Proof.Machine
end

