-- ==== Sys2Proof/Machine/Ports.lean ====
section
/-! DEFINITION. What the host can do to the ports: it drives inputs, and `rd` follows them. "From construction on, `rd` is the
function 43_dispatch.md rule R102 gives of the current inputs, at all times" (70_reset_and_hazards.md R122), so every operation here
that drives an input ends in `State.settle`. -/

namespace Sys2Proof.Machine

/-- The value R102 gives `rd`: none where the evaluation raises InvalidOperation (10_state.md R17, log 8). -/
def outputOf {w : Nat} : Except InvalidOperation (BitVec w) → Option (BitVec w)
  | .ok v => some v
  | .error _ => none

/-- `rd` takes the value that R102 gives of the inputs on the ports (R26, R122). No input changes. -/
def State.settle (s : State) : State :=
  match s.data with
  | .x32 p => { s with data := .x32 { p with rd := outputOf (evaluate32 (s.request p.rs1 p.rs2)) } }
  | .x64 p => { s with data := .x64 { p with rd := outputOf (evaluate64 (s.request p.rs1 p.rs2)) } }

/-- The host drives a control vector onto the control ports (R38), and `rd` follows; the other inputs stay as they are. -/
def State.withCtl (s : State) (ctl : Ctl) : State :=
  State.settle { s with fn := ctlFn ctl, hl := ctlHl ctl, bs := ctlBs ctl, rnum := ctlRnum ctl }

/-- The host drives `valid`, and `rd` follows (it does not change: R100). -/
def State.withValid (s : State) (v : Bool) : State := State.settle { s with valid := v }

/-- A core with XLEN = 32 on whose input ports the host drives a request, and `rd` with them. -/
def State.present32 (r : Request 32) : State :=
  State.settle
    { fn := r.fn, hl := r.hl, bs := r.bs, rnum := r.rnum, valid := r.valid, data := .x32 ⟨r.rs1, r.rs2, none⟩ }

/-- A core with XLEN = 64 on whose input ports the host drives a request, and `rd` with them. -/
def State.present64 (r : Request 64) : State :=
  State.settle
    { fn := r.fn, hl := r.hl, bs := r.bs, rnum := r.rnum, valid := r.valid, data := .x64 ⟨r.rs1, r.rs2, none⟩ }

/-- The host drives both operands of a core, each at the width of its XLEN, and `rd` follows; the control ports and `valid` stay as
they are. An operand wider than the port gives its low XLEN bits (DESIGN CHOICE, log 19). -/
def State.withOperands (s : State) (rs1 rs2 : Word64) : State :=
  match s.data with
  | .x32 p => State.settle { s with data := .x32 { p with rs1 := lo32 rs1, rs2 := lo32 rs2 } }
  | .x64 p => State.settle { s with data := .x64 { p with rs1 := rs1, rs2 := rs2 } }

end Sys2Proof.Machine
end

