-- ==== Sys2Proof/Machine/Step.lean ====
section
/-! DEFINITION. One step: one evaluation of the core, "one atomic step: the inputs go in and `rd` comes out"
(70_reset_and_hazards.md R126). -/

namespace Sys2Proof.Machine

/-- One evaluation of the request on the input ports (R102, R126): the control ports are decoded for the core's XLEN and the form
runs, or InvalidOperation is raised (R107, R108). Nothing else happens: the core has no program counter to advance (R20). -/
def step (s : State) : Host.Outcome State Fault Refusal :=
  match decode s.xlen s.ctl with
  | .ok i => exec i s
  | .error e => raiseInvalidOperation e

/-- The host drives the control vector `w` (its low `nbits` bits) onto the control ports, where `step` reads its next request, and
`rd` follows (R122). The core's XLEN, the operands and `valid` stay as they are (DESIGN CHOICE, log 2; the cut to
11 bits is log 5). -/
def State.withFetchWord (s : State) (nbits w : Nat) : State :=
  s.withCtl (BitVec.ofNat 11 (w % 2 ^ nbits))

end Sys2Proof.Machine
end

