-- ==== Sys2Proof/Safety.lean ====
section
/-! DEFINITION. What counts as a safe run, and the terms the statements use: which requests a core defines, which ports a form
reads, and when `rd` is current. -/

namespace Sys2Proof.Machine

/-- A request the core defines: `fn` is one of the 15 codes, and not IM, KS1 or KS2 at XLEN = 32
(30_encoding.md R42, R43). A claim about a host program takes this of every request as its premise (60_exceptions.md R110). -/
def State.legal (s : State) : Bool :=
  s.fn != 15 && !(s.xlen == .x32 && (s.fn == 4 || s.fn == 5 || s.fn == 6))

/-- `rd` is the value that R102 gives of the current inputs (10_state.md R26, 70_reset_and_hazards.md R122). -/
abbrev State.rdCurrent (s : State) : Prop := s.settle = s

/-- A run is safe as long as no evaluation raises InvalidOperation (60_exceptions.md R110). -/
def State.safe (s : State) : Prop := ∃ t, step s = .next t

/-- The input ports of the core (10_state.md R16). -/
inductive Port where
  | fn
  | hl
  | bs
  | rnum
  | rs1
  | rs2
  | valid
deriving DecidableEq, Repr

/-- The ports that a form reads: `fn`, `hl` where the row's mask has it, and the column "operand fields read"
(30_encoding.md R41, R46). -/
def portsRead : Instr → List Port
  | .ds_64 | .dsm_64 | .es_64 | .esm_64 | .ks2_64 => [.fn, .rs1, .rs2]
  | .im_64 => [.fn, .rs1]
  | .ks1_64 _ => [.fn, .rnum, .rs1]
  | .sha256sig0_64 | .sha256sig1_64 | .sha256sum0_64 | .sha256sum1_64
  | .sha512sig0_64 | .sha512sig1_64 | .sha512sum0_64 | .sha512sum1_64
  | .sha256sig0_32 | .sha256sig1_32 | .sha256sum0_32 | .sha256sum1_32 => [.fn, .rs1]
  | .ds_32 _ | .dsm_32 _ | .es_32 _ | .esm_32 _ => [.fn, .bs, .rs1, .rs2]
  | .sha512sig0l_32 | .sha512sig0h_32 | .sha512sig1l_32 | .sha512sig1h_32 => [.fn, .hl, .rs1, .rs2]
  | .sha512sum0r_32 | .sha512sum1r_32 => [.fn, .rs1, .rs2]

/-- The value on an input port, as a number. -/
def State.port (s : State) : Port → Nat
  | .fn => s.fn.toNat
  | .hl => s.hl.toNat
  | .bs => s.bs.toNat
  | .rnum => s.rnum.toNat
  | .rs1 => match s.data with
    | .x32 p => p.rs1.toNat
    | .x64 p => p.rs1.toNat
  | .rs2 => match s.data with
    | .x32 p => p.rs2.toNat
    | .x64 p => p.rs2.toNat
  | .valid => s.valid.toNat

/-- The value on `rd`, as a number; none where the spec gives no value (R17). -/
def State.rdValue (s : State) : Option Nat :=
  match s.data with
  | .x32 p => p.rd.map BitVec.toNat
  | .x64 p => p.rd.map BitVec.toNat

/-- The result of running one form on a 32-bit core with given operands, on the control ports and `valid` of `s`. -/
def State.run32 (s : State) (i : Instr) (rs1 rs2 : Word32) : Option Word32 :=
  match exec i { s with data := .x32 ⟨rs1, rs2, none⟩ } with
  | .next t => match t.data with
    | .x32 p => p.rd
    | .x64 _ => none
  | _ => none

/-- The result of running one form on a 64-bit core with given operands, on the control ports and `valid` of `s`. -/
def State.run64 (s : State) (i : Instr) (rs1 rs2 : Word64) : Option Word64 :=
  match exec i { s with data := .x64 ⟨rs1, rs2, none⟩ } with
  | .next t => match t.data with
    | .x64 p => p.rd
    | .x32 _ => none
  | _ => none

/-- Four evaluations of a 32-bit AES form, `bs` = 0..3, each taking the result before it as `rs1` and column `c_bs` as `rs2`: the
way a host folds one output column (41_aes.md R72, R73). -/
def State.foldColumn (s : State) (form : BitVec 2 → Instr) (acc c0 c1 c2 c3 : Word32) : Option Word32 :=
  match s.run32 (form 0) acc c0 with
  | none => none
  | some t0 =>
    match s.run32 (form 1) t0 c1 with
    | none => none
    | some t1 =>
      match s.run32 (form 2) t1 c2 with
      | none => none
      | some t2 => s.run32 (form 3) t2 c3

/-- Two states with the same inputs and XLEN: they differ at most in `rd`. -/
def State.sameInputs (s t : State) : Prop := s.xlen = t.xlen ∧ ∀ p, s.port p = t.port p

end Sys2Proof.Machine
end

