-- ==== Sys2Proof/Certificates/Slice0/Obligations.lean ====
section
/-! DEFINITION. The statements for the provers. Each docstring names the rule of spec/ it formalises. Results are stated bit by bit
or byte by byte, or against the field GF(2^8), wherever the rule gives the value that way, so that they say more than the model's
own definitions. -/

open Sys2Proof Sys2Proof.Machine

/-! ### References the statements are held against -/

namespace Sys2Proof.Reference

/-- The product of two binary polynomials of degree below 8. -/
def polyMul (a b : Byte) : BitVec 16 :=
  (List.range 8).foldl (fun acc k => if b.getLsbD k then acc ^^^ (a.zeroExtend 16 <<< k) else acc) 0

/-- The remainder of a binary polynomial of degree below 16 modulo x^8+x^4+x^3+x+1 (0x11B). -/
def polyMod (p : BitVec 16) : Byte :=
  ([7, 6, 5, 4, 3, 2, 1, 0].foldl
    (fun (acc : BitVec 16) (k : Nat) => if acc.getLsbD (8 + k) then acc ^^^ (0x11B#16 <<< k) else acc) p).extractLsb' 0 8

/-- The product in GF(2^8) modulo 0x11B (00_scope.md, Glossary; 40_primitives.md R55). -/
def gfMul (a b : Byte) : Byte := polyMod (polyMul a b)

/-- The affine map of the FIPS-197 S-box (40_primitives.md R58). -/
def affine (i : Byte) : Byte := i ^^^ rotl i 1 ^^^ rotl i 2 ^^^ rotl i 3 ^^^ rotl i 4 ^^^ 0x63

/-- The forward S-box on each of four bytes, the first listed in bits 31:24. -/
def subBytes (b3 b2 b1 b0 : Byte) : Word32 :=
  substitute b3 true ++ substitute b2 true ++ substitute b1 true ++ substitute b0 true

/-- SubWord: the forward S-box on each byte of a word. -/
def subWord (w : Word32) : Word32 := subBytes (byteOf 3 w) (byteOf 2 w) (byteOf 1 w) (byteOf 0 w)

/-- The Encoding line of an operation rule: the form is of the core `x`, and its operation code is `fn` (R39, R46). -/
def encodedAs (i : Instr) (x : XLen) (fn : BitVec 4) : Prop := i.wellFormed x = true ∧ ctlFn (encode i) = fn

/-- Byte `r` (mod 4) of column `c` of the state after ShiftRows (encrypt) or InvShiftRows (decrypt) (40_primitives.md R67). -/
def shifted (encrypt : Bool) (lo hi : Word64) (r c : Nat) : Byte :=
  stateByte lo hi (r % 4 + 4 * (if encrypt then (c + r % 4) % 4 else (c + 4 - r % 4) % 4))

end Sys2Proof.Reference

open Sys2Proof.Reference

/-! ### Requests, decoding and the step -/

/-- A step decodes the control ports for the core's XLEN and is exactly `exec` of the form it reads, with nothing around it: the
core has no program counter to advance. -/
def Obligations.StepRunsDecodedForm : Prop :=
  ∀ (s : State) (i : Instr), decode s.xlen s.ctl = .ok i → step s = exec i s

/-- A word driven onto the control ports of a core of either XLEN is what the next step runs, wherever the decoder reads a form of
that core from it; driving it changes no other input, and `rd` follows (the model's convention, log 2). `decodeTableWord` reads the
same form as the decoder of the reset core. -/
def Obligations.FetchWordIsNextRequest : Prop :=
  (∀ (s : State) (nbits w : Nat) (i : Instr), decodeWord s.xlen (w % 2 ^ nbits) = .ok i →
    step (s.withFetchWord nbits w) = exec i (s.withFetchWord nbits w) ∧
    (s.withFetchWord nbits w).xlen = s.xlen ∧ (s.withFetchWord nbits w).rdCurrent ∧
    ∀ q ∈ [Port.rs1, Port.rs2, Port.valid], (s.withFetchWord nbits w).port q = s.port q) ∧
  ∀ (nbits w : Nat) (i : Instr),
    decodeTableWord nbits w = some i ↔ decodeWord State.reset.xlen (w % 2 ^ nbits) = .ok i

/-- Control vectors written out from R38 and R46, one or more of each family. -/
def Obligations.SampleControlVectorsDecode : Prop :=
  decode .x64 0b00000000010#11 = .ok .es_64 ∧ decode .x64 0b10100000101#11 = .ok (.ks1_64 10) ∧
  decode .x64 0b11111110100#11 = .ok .im_64 ∧ decode .x64 0b00000001010#11 = .ok .sha256sum1_64 ∧
  decode .x64 0b00000011011#11 = .ok .sha512sig0_64 ∧
  decode .x32 0b00001100001#11 = .ok (.dsm_32 3) ∧ decode .x32 0b00000000111#11 = .ok .sha256sig0_32 ∧
  decode .x32 0b00000011011#11 = .ok .sha512sig0h_32 ∧ decode .x32 0b00000001100#11 = .ok .sha512sig1l_32 ∧
  decode .x32 0b00000011101#11 = .ok .sha512sum0r_32 ∧
  decode .x32 0b00000000101#11 = .error ⟨5⟩ ∧ decode .x64 0b11111111111#11 = .error ⟨15⟩

/-- Every form of a core decodes from its encoding, with its operand at every value, whatever stands in the CTL bits the form does
not read. -/
def Obligations.DecodeOfEncodeIsTheForm : Prop :=
  ∀ (x : XLen) (i : Instr) (junk : Ctl), i.wellFormed x = true →
    decode x (encode i ||| (junk &&& ~~~i.readMask)) = .ok i

/-- A control vector that decodes to a form is that form's encoding on the bits the form reads, and the form is of the core. -/
def Obligations.DecodedVectorIsTheEncoding : Prop :=
  ∀ (x : XLen) (ctl : Ctl) (i : Instr), decode x ctl = .ok i →
    i.wellFormed x = true ∧ ctl &&& i.readMask = encode i

/-- The decoder is the opcode map (R46): the rows of the core's XLEN that a control vector selects are one row, that of the form
decoded, or none, and then the vector is rejected with its `fn`. -/
def Obligations.DecodeIsTheOpcodeMap : Prop :=
  ∀ (x : XLen) (ctl : Ctl),
    (∀ i, decode x ctl = .ok i →
      ((opcodeMap x).filter (fun r => r.selects ctl)).map (fun r => r.form ctl) = [i]) ∧
    (∀ e, decode x ctl = .error e →
      (opcodeMap x).filter (fun r => r.selects ctl) = [] ∧ e.fn = ctlFn ctl)

/-- InvalidOperation(fn) is raised exactly for `fn` = 15 and, at XLEN = 32, for IM, KS1 and KS2, and records `fn` (R107, R108; that
these requests raise is the spec's decision, 92 D7 and D8). -/
def Obligations.InvalidOperationExactly : Prop :=
  ∀ (s : State) (f : BitVec 4), step s = .fault (.invalidOperation f) ↔
    f = s.fn ∧ (s.fn = 15 ∨ (s.xlen = .x32 ∧ (s.fn = 4 ∨ s.fn = 5 ∨ s.fn = 6)))

/-- Every request the core defines completes, on any data and any `bs`, `rnum`, `hl` and `valid` (R109). -/
def Obligations.LegalRequestCompletes : Prop :=
  ∀ s : State, s.legal = true → s.safe

/-- Every form of the core completes in every state, and only `rd` changes: every other port keeps its value (the frame of all 29
forms, with their completion). -/
def Obligations.EveryFormDrivesRdAlone : Prop :=
  ∀ (i : Instr) (s : State), i.wellFormed s.xlen = true →
    (∃ p rd, s.data = .x32 p ∧ exec i s = .next { s with data := .x32 { p with rd := some rd } }) ∨
    (∃ p rd, s.data = .x64 p ∧ exec i s = .next { s with data := .x64 { p with rd := some rd } })

/-- A form run on a core of the other XLEN is refused by name (the model's choice, log 4), and no step ever ends in a refusal. -/
def Obligations.OtherXlenRefusedAndUnreachable : Prop :=
  (∀ (i : Instr) (s : State), i.xlen ≠ s.xlen → exec i s = .refused .formOfOtherXlen) ∧
  ∀ (s : State) (r : Refusal), step s ≠ .refused r

/-- After any step `rd` is what R102 gives of the inputs (R26, R122), whatever stood on it before, and the step changed no input and
not the XLEN (R8). -/
def Obligations.StepLeavesRdCurrent : Prop :=
  ∀ s t : State, step s = .next t → t.rdCurrent ∧ t.xlen = s.xlen ∧ ∀ q : Port, t.port q = s.port q

/-- `rd` is current from construction on, at both XLENs, and `State.reset` is such a core (R122; that the inputs are zero then is
the model's choice, log 3, and that the reset core has XLEN = 64 is log 1). -/
def Obligations.ConstructedCoreIsCurrent : Prop :=
  (∀ x : XLen, (State.construct x).xlen = x ∧ (State.construct x).rdCurrent) ∧ State.reset.rdCurrent

/-- The machine is the core's evaluation function (R102): a step drives `rd` with the value of `evaluate` of the request on the
ports, or records InvalidOperation where `evaluate` raises it. -/
def Obligations.StepIsEvaluate : Prop :=
  (∀ (s : State) (p : DataPorts 32), s.data = .x32 p →
    step s = match evaluate32 (s.request p.rs1 p.rs2) with
      | .ok v => .next { s with data := .x32 { p with rd := some v } }
      | .error e => .fault (.invalidOperation e.fn)) ∧
  (∀ (s : State) (p : DataPorts 64), s.data = .x64 p →
    step s = match evaluate64 (s.request p.rs1 p.rs2) with
      | .ok v => .next { s with data := .x64 { p with rd := some v } }
      | .error e => .fault (.invalidOperation e.fn))

/-- CryptoDispatch as a table of results indexed by `fn`, whose first seven entries are one AES computation (R98, R99), and which
raises outside the table (R101), is the branching evaluation function. -/
def Obligations.CryptoDispatchIsEvaluate : Prop :=
  (∀ r : Request 32, cryptoDispatch (dispatchTable32 r) r.fn = evaluate32 r) ∧
  (∀ r : Request 64, cryptoDispatch (dispatchTable64 r) r.fn = evaluate64 r)

/-- An unread input has no influence on `rd` (R19): two requests on cores of one XLEN that agree on the ports their form reads
give the same result, whatever else differs. -/
def Obligations.UnreadPortsHaveNoInfluence : Prop :=
  ∀ (s s' t : State) (i : Instr), s.xlen = s'.xlen → decode s.xlen s.ctl = .ok i →
    (∀ q ∈ portsRead i, s.port q = s'.port q) → step s = .next t →
    ∃ t', step s' = .next t' ∧ t'.rdValue = t.rdValue

/-- `valid` does not gate the computation (R100): changing it changes nothing of an evaluation, or of `rd`, but itself. -/
def Obligations.ValidDoesNotGate : Prop :=
  (∀ (s : State) (v : Bool), step { s with valid := v } =
    match step s with
    | .next t => .next { t with valid := v }
    | .fault f => .fault f
    | .refused r => .refused r) ∧
  ∀ (s : State) (v : Bool), s.rdCurrent → s.withValid v = { s with valid := v }

/-- A result depends only on that evaluation's inputs and XLEN (R34): two states with one set of inputs have one outcome of a step
and one `rd`, so whatever stands on `rd` makes no difference. -/
def Obligations.OutcomeDependsOnInputsOnly : Prop :=
  ∀ s s' : State, s.sameInputs s' →
    step s = step s' ∧ s.settle = s'.settle ∧ (s.rdCurrent → s'.rdCurrent → s = s')

/-! ### Construction -/

/-- A core is built for a width of 32 or 64 and for no other; the refusal names the width, and no evaluation ever sees another
width (R105). -/
def Obligations.OnlyWidths32And64AreBuilt : Prop :=
  (∀ s : State, s.xlen.bits = 32 ∨ s.xlen.bits = 64) ∧
  ∀ n : Nat, (∀ x, XLen.construct n = .ok x → x.bits = n) ∧ ((n = 32 ∨ n = 64) ↔ ∃ x, XLen.construct n = .ok x) ∧
    (n ≠ 32 → n ≠ 64 → XLen.construct n = .error (.xlen n))

/-- A multiplier constant outside 1..15 is refused at construction, and every one inside is built (R106). -/
def Obligations.OnlyMultiplierConstants1To15AreBuilt : Prop :=
  ∀ n : Nat, (1 ≤ n → n ≤ 15 → ∃ y, GfConst.construct n = .ok y ∧ y.y.toNat = n) ∧
    (¬ (1 ≤ n ∧ n ≤ 15) → GfConst.construct n = .error (.gfConstant n))

/-! ### Components -/

/-- Rotations and bytes: bit i of `rotr` is bit (i + n) mod W and `rotl` undoes `rotr` (R12); bit j of byte k is bit 8k + j, so byte
0 is the least significant (R27; the spec's choice between the source's readings, 90_conflicts.md C1, C2, 92 D13, log 10); and
`word` and `bytesOf` are inverses, with element k of `bytesOf` byte k (R14). -/
def Obligations.RotationAndByteNumbering : Prop :=
  (∀ (w : Nat) (v : BitVec w) (n i : Nat), i < w → (rotr v n).getLsbD i = v.getLsbD ((i + n) % w)) ∧
  (∀ (w : Nat) (v : BitVec w) (n : Nat), rotl (rotr v n) n = v ∧ rotr (rotl v n) n = v) ∧
  (∀ (w : Nat) (v : BitVec w) (k j : Nat), j < 8 → (byteOf k v).getLsbD j = v.getLsbD (8 * k + j)) ∧
  (∀ (b : Vector Byte 4) (k j : Nat) (h : k < 4), j < 8 → (word4 b).getLsbD (8 * k + j) = b[k].getLsbD j) ∧
  (∀ (b : Vector Byte 8) (k j : Nat) (h : k < 8), j < 8 → (word8 b).getLsbD (8 * k + j) = b[k].getLsbD j) ∧
  (∀ (v : Word32), word4 (bytesOf4 v) = v) ∧ (∀ (v : Word64), word8 (bytesOf8 v) = v) ∧
  (∀ (b : Vector Byte 4), bytesOf4 (word4 b) = b) ∧ (∀ (b : Vector Byte 8), bytesOf8 (word8 b) = b)

/-- The properties of the BarrelShiftNetwork, items 1 to 5 of R54. Item 5, that a rotation of the bytes of a word is a rotation of
its bits, is the spec's own derivation from R50, R51 and R14. -/
def Obligations.BarrelShiftProperties : Prop :=
  (∀ (α : Type) (n : Nat) (z : α) (e : Vector α n) (m : ShiftMode), barrelShift z e 0 m = e) ∧
  (∀ (α : Type) (n : Nat) (z : α) (e : Vector α n),
    barrelShift z e n .leftRotate = e ∧ barrelShift z e n .rightRotate = e) ∧
  (∀ (α : Type) (n : Nat) (z : α) (e : Vector α n) (k : Nat),
    barrelShift z e k .leftRotate = barrelShift z e (n - k % n) .rightRotate) ∧
  (∀ (α : Type) (n : Nat) (z : α) (e : Vector α n) (k : Nat),
    barrelShift z (barrelShift z e k .leftRotate) k .rightRotate = e) ∧
  (∃ (e : Vector Nat 4) (k : Nat), barrelShift 0 (barrelShift 0 e k .leftShift) (4 - k) .rightShift ≠ e) ∧
  (∀ (v : Word32) (k : Nat), k ≤ 3 →
    word4 (barrelShift 0 (bytesOf4 v) k .leftRotate) = rotl v (8 * k) ∧
    word4 (barrelShift 0 (bytesOf4 v) k .rightRotate) = rotr v (8 * k))

/-- The shift modes drop elements off one end and fill the other with zeros, and any amount of N or more leaves zeros only
(R52, R53; the direction is the spec's decision 92 D5). -/
def Obligations.ShiftModesMoveAndFillWithZero : Prop :=
  ∀ (α : Type) (n : Nat) (z : α) (e : Vector α n) (k i : Nat) (h : i < n),
    (∀ (h' : k + i < n), (barrelShift z e k .leftShift)[k + i] = e[i] ∧ (barrelShift z e k .rightShift)[i] = e[k + i]) ∧
    (i < k → (barrelShift z e k .leftShift)[i] = z) ∧ (n ≤ k + i → (barrelShift z e k .rightShift)[i] = z)

/-- GF256Multiply is exact GF(2^8) arithmetic: the product modulo 0x11B, for every constant (R56). -/
def Obligations.MultiplyIsTheFieldProduct : Prop :=
  ∀ (v : Byte) (y : GfConst), multiply v y = gfMul v (y.y.zeroExtend 8)

/-- The S-box tables are FIPS-197's (R58): the affine map of the field inverse, with the inverse of 0 taken as 0, and SBOX_INV undoes
SBOX_FWD both ways (R59). -/
def Obligations.SboxIsAffineOfFieldInverse : Prop :=
  ∀ b : Byte,
    (∃ c : Byte, (b = 0 → c = 0) ∧ (b ≠ 0 → gfMul b c = 1) ∧ substitute b true = affine c) ∧
    substitute (substitute b true) false = b ∧ substitute (substitute b false) true = b

/-- mixColumn32 is the circulant MixColumns matrix over GF(2^8), row r in byte r, and the inverse matrix for decrypt (R63). -/
def Obligations.MixColumn32IsTheAesMatrix : Prop :=
  ∀ (w : Word32) (r : Nat), r < 4 →
    byteOf r (mixColumn32 w true) =
      gfMul (byteOf r w) 2 ^^^ gfMul (byteOf ((r + 1) % 4) w) 3 ^^^ byteOf ((r + 2) % 4) w ^^^ byteOf ((r + 3) % 4) w ∧
    byteOf r (mixColumn32 w false) =
      gfMul (byteOf r w) 0xE ^^^ gfMul (byteOf ((r + 1) % 4) w) 0xB ^^^ gfMul (byteOf ((r + 2) % 4) w) 0xD ^^^
        gfMul (byteOf ((r + 3) % 4) w) 9

/-- InvMixColumns and MixColumns undo each other on every column, at both sizes (R65). The source states invMix(mix(c)) = c at 32
bits; the other order and the 64-bit size are the spec's own derivations, and that the source's "not generally identity" is
overruled is the spec's resolution (90_conflicts.md C4, log 12). -/
def Obligations.MixColumnsUndoEachOther : Prop :=
  (∀ (w : Word32) (e : Bool), mixColumn32 (mixColumn32 w e) (!e) = w) ∧
  (∀ (w : Word64) (e : Bool), mixColumn64 (mixColumn64 w e) (!e) = w)

/-- ShiftRowsDual, called with the halves in either order, gives the two halves of AES ShiftRows, or InvShiftRows (R67). -/
def Obligations.ShiftRowsDualIsAesShiftRows : Prop :=
  ∀ (lo hi : Word64) (e : Bool) (r c : Nat), r < 4 → c < 4 →
    stateByte (shiftRows lo hi e) (shiftRows hi lo e) (r + 4 * c) = shifted e lo hi r c

/-- The encrypt and decrypt strides applied back to back over the full state give it back (R68). -/
def Obligations.ShiftRowsUndoesItself : Prop :=
  ∀ (lo hi : Word64) (e : Bool),
    shiftRows (shiftRows lo hi e) (shiftRows hi lo e) (!e) = lo ∧
    shiftRows (shiftRows hi lo e) (shiftRows lo hi e) (!e) = hi

/-! ### AES at XLEN = 32 -/

/-- DS.32 (R70): byte `bs` of `rs1` is XORed with the inverse substitution of byte `bs` of `rs2`, and no other byte changes. -/
def Obligations.Ds32Result : Prop :=
  (∀ bs, encodedAs (.ds_32 bs) .x32 0) ∧
  ∀ (s : State) (p : DataPorts 32) (bs : BitVec 2), s.data = .x32 p →
    ∃ rd, exec (.ds_32 bs) s = .next { s with data := .x32 { p with rd := some rd } } ∧
      rd = p.rs1 ^^^ rotl ((substitute (byteOf bs.toNat p.rs2) false).zeroExtend 32) (8 * bs.toNat) ∧
      (∀ k < 4, byteOf k rd =
        byteOf k p.rs1 ^^^ (if k = bs.toNat then substitute (byteOf bs.toNat p.rs2) false else 0)) ∧
      (p.rs2 = 0 → rd = p.rs1 ^^^ ((0x52 : Word32) <<< (8 * bs.toNat)))

/-- DSM.32 (R71): 0xE, 9, 0xD and 0xB times the substituted byte land in bytes bs, bs+1, bs+2 and bs+3 (mod 4)
(where they land is the spec's own derivation from R69 and R62). -/
def Obligations.Dsm32Result : Prop :=
  (∀ bs, encodedAs (.dsm_32 bs) .x32 1) ∧
  ∀ (s : State) (p : DataPorts 32) (bs : BitVec 2), s.data = .x32 p →
    ∃ rd so, so = substitute (byteOf bs.toNat p.rs2) false ∧
      exec (.dsm_32 bs) s = .next { s with data := .x32 { p with rd := some rd } } ∧
      rd = p.rs1 ^^^ rotl (mixColumn8 so false) (8 * bs.toNat) ∧ (p.rs2 = 0 → so = 0x52) ∧
      byteOf (bs.toNat % 4) rd = byteOf (bs.toNat % 4) p.rs1 ^^^ gfMul so 0xE ∧
      byteOf ((bs.toNat + 1) % 4) rd = byteOf ((bs.toNat + 1) % 4) p.rs1 ^^^ gfMul so 9 ∧
      byteOf ((bs.toNat + 2) % 4) rd = byteOf ((bs.toNat + 2) % 4) p.rs1 ^^^ gfMul so 0xD ∧
      byteOf ((bs.toNat + 3) % 4) rd = byteOf ((bs.toNat + 3) % 4) p.rs1 ^^^ gfMul so 0xB

/-- ES.32 (R72): byte `bs` of `rs1` is XORed with the forward substitution of byte `bs` of `rs2`, and no other byte changes; four
evaluations on one word accumulate SubWord of it (the spec's own derivation in R72). -/
def Obligations.Es32Result : Prop :=
  (∀ bs, encodedAs (.es_32 bs) .x32 2) ∧
  (∀ (s : State) (p : DataPorts 32) (bs : BitVec 2), s.data = .x32 p →
    ∃ rd, exec (.es_32 bs) s = .next { s with data := .x32 { p with rd := some rd } } ∧
      rd = p.rs1 ^^^ rotl ((substitute (byteOf bs.toNat p.rs2) true).zeroExtend 32) (8 * bs.toNat) ∧
      (∀ k < 4, byteOf k rd =
        byteOf k p.rs1 ^^^ (if k = bs.toNat then substitute (byteOf bs.toNat p.rs2) true else 0)) ∧
      (p.rs2 = 0 → rd = p.rs1 ^^^ ((0x63 : Word32) <<< (8 * bs.toNat)))) ∧
  (∀ (s : State) (acc w : Word32), s.foldColumn .es_32 acc w w w w = some (acc ^^^ subWord w))

/-- ESM.32 (R73): 2, 1, 1 and 3 times the substituted byte land in bytes bs, bs+1, bs+2 and bs+3 (mod 4) (where they land is the
spec's own derivation from R62 and R63). Four evaluations, the one with `bs` = r on the state column that holds row r of output
column c (column c + r mod 4), give MixColumns of the substituted bytes: one output column of a full round. -/
def Obligations.Esm32Result : Prop :=
  (∀ bs, encodedAs (.esm_32 bs) .x32 3) ∧
  (∀ (s : State) (acc c0 c1 c2 c3 : Word32), s.foldColumn .esm_32 acc c0 c1 c2 c3 =
    some (acc ^^^ mixColumn32 (subBytes (byteOf 3 c3) (byteOf 2 c2) (byteOf 1 c1) (byteOf 0 c0)) true)) ∧
  ∀ (s : State) (p : DataPorts 32) (bs : BitVec 2), s.data = .x32 p →
    ∃ rd so, so = substitute (byteOf bs.toNat p.rs2) true ∧
      exec (.esm_32 bs) s = .next { s with data := .x32 { p with rd := some rd } } ∧
      rd = p.rs1 ^^^ rotl (mixColumn8 so true) (8 * bs.toNat) ∧
      byteOf (bs.toNat % 4) rd = byteOf (bs.toNat % 4) p.rs1 ^^^ gfMul so 2 ∧
      byteOf ((bs.toNat + 1) % 4) rd = byteOf ((bs.toNat + 1) % 4) p.rs1 ^^^ so ∧
      byteOf ((bs.toNat + 2) % 4) rd = byteOf ((bs.toNat + 2) % 4) p.rs1 ^^^ so ∧
      byteOf ((bs.toNat + 3) % 4) rd = byteOf ((bs.toNat + 3) % 4) p.rs1 ^^^ gfMul so 3

/-! ### AES at XLEN = 64 -/

/-- ES.64 (R76): ShiftRows then SubBytes of one half of the state, whatever `rnum` is. That the shifted bytes are AES ShiftRows of the
state (the last clause) is the spec's own derivation in R67. -/
def Obligations.Es64Result : Prop :=
  encodedAs .es_64 .x64 2 ∧
  ∀ (s : State) (p : DataPorts 64), s.data = .x64 p →
    ∃ rd, exec .es_64 s = .next { s with data := .x64 { p with rd := some rd } } ∧
      (p.rs1 = 0 → p.rs2 = 0 → rd = 0x6363636363636363) ∧
      (∀ k < 8, byteOf k rd = substitute (byteOf k (shiftRows p.rs1 p.rs2 true)) true) ∧
      (∀ r < 4, ∀ c < 2, byteOf (r + 4 * c) rd = substitute (shifted true p.rs1 p.rs2 r c) true)

/-- ESM.64 (R77): ShiftRows, SubBytes and MixColumns of one half of the state. The value at zero operands and the byte-by-byte matrix
(the last clause) are the spec's own derivations, in R77 from R63, and in R63 and R67. -/
def Obligations.Esm64Result : Prop :=
  encodedAs .esm_64 .x64 3 ∧
  ∀ (s : State) (p : DataPorts 64), s.data = .x64 p →
    ∃ rd so, exec .esm_64 s = .next { s with data := .x64 { p with rd := some rd } } ∧
      (∀ k < 8, byteOf k so = substitute (byteOf k (shiftRows p.rs1 p.rs2 true)) true) ∧ rd = mixColumn64 so true ∧
      (p.rs1 = 0 → p.rs2 = 0 → rd = 0x6363636363636363) ∧
      (∀ r < 4, ∀ c < 2, byteOf (r + 4 * c) rd =
        gfMul (substitute (shifted true p.rs1 p.rs2 r c) true) 2 ^^^
        gfMul (substitute (shifted true p.rs1 p.rs2 (r + 1) c) true) 3 ^^^
        substitute (shifted true p.rs1 p.rs2 (r + 2) c) true ^^^ substitute (shifted true p.rs1 p.rs2 (r + 3) c) true)

/-- DS.64 (R78): InvShiftRows then InvSubBytes of one half of the state. That the shifted bytes are AES InvShiftRows of the state (the
last clause) is the spec's own derivation in R67. -/
def Obligations.Ds64Result : Prop :=
  encodedAs .ds_64 .x64 0 ∧
  ∀ (s : State) (p : DataPorts 64), s.data = .x64 p →
    ∃ rd, exec .ds_64 s = .next { s with data := .x64 { p with rd := some rd } } ∧
      (p.rs1 = 0 → p.rs2 = 0 → rd = 0x5252525252525252) ∧
      (∀ k < 8, byteOf k rd = substitute (byteOf k (shiftRows p.rs1 p.rs2 false)) false) ∧
      (∀ r < 4, ∀ c < 2, byteOf (r + 4 * c) rd = substitute (shifted false p.rs1 p.rs2 r c) false)

/-- DSM.64 (R79): InvShiftRows, InvSubBytes, then InvMixColumns of one half of the state. The value at zero operands, the order of the
last two and the byte-by-byte matrix (the last clause) are the spec's own derivations, in R79 from R63, and in R63 and R67. -/
def Obligations.Dsm64Result : Prop :=
  encodedAs .dsm_64 .x64 1 ∧
  ∀ (s : State) (p : DataPorts 64), s.data = .x64 p →
    ∃ rd so, exec .dsm_64 s = .next { s with data := .x64 { p with rd := some rd } } ∧
      (∀ k < 8, byteOf k so = substitute (byteOf k (shiftRows p.rs1 p.rs2 false)) false) ∧ rd = mixColumn64 so false ∧
      (p.rs1 = 0 → p.rs2 = 0 → rd = 0x5252525252525252) ∧
      (∀ r < 4, ∀ c < 2, byteOf (r + 4 * c) rd =
        gfMul (substitute (shifted false p.rs1 p.rs2 r c) false) 0xE ^^^
        gfMul (substitute (shifted false p.rs1 p.rs2 (r + 1) c) false) 0xB ^^^
        gfMul (substitute (shifted false p.rs1 p.rs2 (r + 2) c) false) 0xD ^^^
        gfMul (substitute (shifted false p.rs1 p.rs2 (r + 3) c) false) 9)

/-- IM.64 (R80): InvMixColumns of each column of `rs1`; `rs2` is not read. It undoes the MixColumns of ESM (the spec's own
derivation in R80 from R76, R77 and R65). -/
def Obligations.Im64Result : Prop :=
  encodedAs .im_64 .x64 4 ∧
  (∀ (s : State) (p : DataPorts 64), s.data = .x64 p →
    exec .im_64 s = .next { s with data := .x64 { p with
      rd := some (mixColumn32 (hi32 p.rs1) false ++ mixColumn32 (lo32 p.rs1) false) } }) ∧
  (∀ (s : State) (c : Word64), s.run64 .im_64 0 c = some 0) ∧
  (∀ (s : State) (a b c : Word64), ∃ m, s.run64 .esm_64 a b = some m ∧ s.run64 .im_64 m c = s.run64 .es_64 a b)

/-- KS1.64 (R81): SubWord of the high word of `rs1`, rotated right by a byte unless `rnum` = 10, with the round constant, in both
halves of `rd`; the low word of `rs1` is not read. Every `rnum` is legal. -/
def Obligations.Ks164Result : Prop :=
  (∀ rnum, encodedAs (.ks1_64 rnum) .x64 5) ∧
  ∀ (s : State) (p : DataPorts 64) (rnum : BitVec 4), s.data = .x64 p →
    ∃ t rc : Word32,
      rc = (if rnum.toNat < 8 then (1 : Word32) <<< rnum.toNat
            else if rnum = 8 then 0x1B else if rnum = 9 then 0x36 else 0) ∧
      t = subWord (if rnum = 10 then hi32 p.rs1 else byteOf 0 (hi32 p.rs1) ++ (hi32 p.rs1).extractLsb' 8 24) ^^^ rc ∧
      exec (.ks1_64 rnum) s = .next { s with data := .x64 { p with rd := some (t ++ t) } }

/-- KS2.64 (R82): the XOR chain of two new round-key words; the low word of `rs1` is not read. -/
def Obligations.Ks264Result : Prop :=
  encodedAs .ks2_64 .x64 6 ∧
  ∀ (s : State) (p : DataPorts 64), s.data = .x64 p →
    ∃ w0 w1 : Word32, w0 = hi32 p.rs1 ^^^ lo32 p.rs2 ∧ w1 = w0 ^^^ hi32 p.rs2 ∧
      exec .ks2_64 s = .next { s with data := .x64 { p with rd := some (w1 ++ w0) } } ∧
      (p.rs2 = 0 → w1 = hi32 p.rs1 ∧ w0 = hi32 p.rs1)

/-! ### SHA-256 at both widths, bit by bit -/

/-- SHA256SIG0 (R85) at both XLENs; at XLEN = 64 bits 63:32 copy bit 31 and bits 63:32 of `rs1` are not read. -/
def Obligations.Sha256Sig0Result : Prop :=
  encodedAs .sha256sig0_32 .x32 7 ∧ encodedAs .sha256sig0_64 .x64 7 ∧
  (∀ (s : State) (p : DataPorts 32), s.data = .x32 p → ∃ rd,
    exec .sha256sig0_32 s = .next { s with data := .x32 { p with rd := some rd } } ∧
    (p.rs1 = 0 → rd = 0) ∧
    ∀ i < 32, rd.getLsbD i = (p.rs1.getLsbD ((i + 7) % 32) ^^ p.rs1.getLsbD ((i + 18) % 32) ^^ p.rs1.getLsbD (i + 3))) ∧
  (∀ (s : State) (p : DataPorts 64), s.data = .x64 p → ∃ rd,
    exec .sha256sig0_64 s = .next { s with data := .x64 { p with rd := some rd } } ∧
    (lo32 p.rs1 = 0 → rd = 0) ∧
    (∀ i < 32, rd.getLsbD i =
      (p.rs1.getLsbD ((i + 7) % 32) ^^ p.rs1.getLsbD ((i + 18) % 32) ^^ (decide (i + 3 < 32) && p.rs1.getLsbD (i + 3)))) ∧
    ∀ i, 32 ≤ i → i < 64 → rd.getLsbD i = rd.getLsbD 31)

/-- SHA256SIG1 (R86) at both XLENs. -/
def Obligations.Sha256Sig1Result : Prop :=
  encodedAs .sha256sig1_32 .x32 8 ∧ encodedAs .sha256sig1_64 .x64 8 ∧
  (∀ (s : State) (p : DataPorts 32), s.data = .x32 p → ∃ rd,
    exec .sha256sig1_32 s = .next { s with data := .x32 { p with rd := some rd } } ∧
    (p.rs1 = 0 → rd = 0) ∧
    ∀ i < 32, rd.getLsbD i = (p.rs1.getLsbD ((i + 17) % 32) ^^ p.rs1.getLsbD ((i + 19) % 32) ^^ p.rs1.getLsbD (i + 10))) ∧
  (∀ (s : State) (p : DataPorts 64), s.data = .x64 p → ∃ rd,
    exec .sha256sig1_64 s = .next { s with data := .x64 { p with rd := some rd } } ∧
    (lo32 p.rs1 = 0 → rd = 0) ∧
    (∀ i < 32, rd.getLsbD i =
      (p.rs1.getLsbD ((i + 17) % 32) ^^ p.rs1.getLsbD ((i + 19) % 32) ^^ (decide (i + 10 < 32) && p.rs1.getLsbD (i + 10)))) ∧
    ∀ i, 32 ≤ i → i < 64 → rd.getLsbD i = rd.getLsbD 31)

/-- SHA256SUM0 (R87) at both XLENs. -/
def Obligations.Sha256Sum0Result : Prop :=
  encodedAs .sha256sum0_32 .x32 9 ∧ encodedAs .sha256sum0_64 .x64 9 ∧
  (∀ (s : State) (p : DataPorts 32), s.data = .x32 p → ∃ rd,
    exec .sha256sum0_32 s = .next { s with data := .x32 { p with rd := some rd } } ∧
    (p.rs1 = 0 → rd = 0) ∧ (p.rs1 = 0xFFFFFFFF → rd = 0xFFFFFFFF) ∧
    ∀ i < 32, rd.getLsbD i =
      (p.rs1.getLsbD ((i + 2) % 32) ^^ p.rs1.getLsbD ((i + 13) % 32) ^^ p.rs1.getLsbD ((i + 22) % 32))) ∧
  (∀ (s : State) (p : DataPorts 64), s.data = .x64 p → ∃ rd,
    exec .sha256sum0_64 s = .next { s with data := .x64 { p with rd := some rd } } ∧
    (lo32 p.rs1 = 0 → rd = 0) ∧ (lo32 p.rs1 = 0xFFFFFFFF → rd = 0xFFFFFFFFFFFFFFFF) ∧
    (∀ i < 32, rd.getLsbD i =
      (p.rs1.getLsbD ((i + 2) % 32) ^^ p.rs1.getLsbD ((i + 13) % 32) ^^ p.rs1.getLsbD ((i + 22) % 32))) ∧
    ∀ i, 32 ≤ i → i < 64 → rd.getLsbD i = rd.getLsbD 31)

/-- SHA256SUM1 (R88) at both XLENs. -/
def Obligations.Sha256Sum1Result : Prop :=
  encodedAs .sha256sum1_32 .x32 10 ∧ encodedAs .sha256sum1_64 .x64 10 ∧
  (∀ (s : State) (p : DataPorts 32), s.data = .x32 p → ∃ rd,
    exec .sha256sum1_32 s = .next { s with data := .x32 { p with rd := some rd } } ∧
    (p.rs1 = 0 → rd = 0) ∧ (p.rs1 = 0xFFFFFFFF → rd = 0xFFFFFFFF) ∧
    ∀ i < 32, rd.getLsbD i =
      (p.rs1.getLsbD ((i + 6) % 32) ^^ p.rs1.getLsbD ((i + 11) % 32) ^^ p.rs1.getLsbD ((i + 25) % 32))) ∧
  (∀ (s : State) (p : DataPorts 64), s.data = .x64 p → ∃ rd,
    exec .sha256sum1_64 s = .next { s with data := .x64 { p with rd := some rd } } ∧
    (lo32 p.rs1 = 0 → rd = 0) ∧ (lo32 p.rs1 = 0xFFFFFFFF → rd = 0xFFFFFFFFFFFFFFFF) ∧
    (∀ i < 32, rd.getLsbD i =
      (p.rs1.getLsbD ((i + 6) % 32) ^^ p.rs1.getLsbD ((i + 11) % 32) ^^ p.rs1.getLsbD ((i + 25) % 32))) ∧
    ∀ i, 32 ≤ i → i < 64 → rd.getLsbD i = rd.getLsbD 31)

/-! ### SHA-512, bit by bit -/

/-- SHA512SIG0 at XLEN = 64 (R89). -/
def Obligations.Sha512Sig0Result64 : Prop :=
  encodedAs .sha512sig0_64 .x64 11 ∧
  ∀ (s : State) (p : DataPorts 64), s.data = .x64 p → ∃ rd,
    exec .sha512sig0_64 s = .next { s with data := .x64 { p with rd := some rd } } ∧
    (p.rs1 = 0 → rd = 0) ∧
    ∀ i < 64, rd.getLsbD i = (p.rs1.getLsbD ((i + 1) % 64) ^^ p.rs1.getLsbD ((i + 8) % 64) ^^ p.rs1.getLsbD (i + 7))

/-- SHA512SIG1 at XLEN = 64 (R90). -/
def Obligations.Sha512Sig1Result64 : Prop :=
  encodedAs .sha512sig1_64 .x64 12 ∧
  ∀ (s : State) (p : DataPorts 64), s.data = .x64 p → ∃ rd,
    exec .sha512sig1_64 s = .next { s with data := .x64 { p with rd := some rd } } ∧
    (p.rs1 = 0 → rd = 0) ∧
    ∀ i < 64, rd.getLsbD i = (p.rs1.getLsbD ((i + 19) % 64) ^^ p.rs1.getLsbD ((i + 61) % 64) ^^ p.rs1.getLsbD (i + 6))

/-- SHA512SUM0 at XLEN = 64 (R91). -/
def Obligations.Sha512Sum0Result64 : Prop :=
  encodedAs .sha512sum0_64 .x64 13 ∧
  ∀ (s : State) (p : DataPorts 64), s.data = .x64 p → ∃ rd,
    exec .sha512sum0_64 s = .next { s with data := .x64 { p with rd := some rd } } ∧
    (p.rs1 = 0xFFFFFFFFFFFFFFFF → rd = 0xFFFFFFFFFFFFFFFF) ∧
    ∀ i < 64, rd.getLsbD i =
      (p.rs1.getLsbD ((i + 28) % 64) ^^ p.rs1.getLsbD ((i + 34) % 64) ^^ p.rs1.getLsbD ((i + 39) % 64))

/-- SHA512SUM1 at XLEN = 64 (R92). -/
def Obligations.Sha512Sum1Result64 : Prop :=
  encodedAs .sha512sum1_64 .x64 14 ∧
  ∀ (s : State) (p : DataPorts 64), s.data = .x64 p → ∃ rd,
    exec .sha512sum1_64 s = .next { s with data := .x64 { p with rd := some rd } } ∧
    (p.rs1 = 0xFFFFFFFFFFFFFFFF → rd = 0xFFFFFFFFFFFFFFFF) ∧
    ∀ i < 64, rd.getLsbD i =
      (p.rs1.getLsbD ((i + 14) % 64) ^^ p.rs1.getLsbD ((i + 18) % 64) ^^ p.rs1.getLsbD ((i + 41) % 64))

/-- SHA512SIG0 at XLEN = 32, both values of `hl` (R93): bit i of a right shift is bit i + n of the operand (0 past bit 31), and bit
i of a left shift is bit i - n (0 below n). The form with `hl` = 1 has no `b << 25`. -/
def Obligations.Sha512Sig0HalfResult32 : Prop :=
  encodedAs .sha512sig0l_32 .x32 11 ∧ ctlHl (encode .sha512sig0l_32) = false ∧
  encodedAs .sha512sig0h_32 .x32 11 ∧ ctlHl (encode .sha512sig0h_32) = true ∧
  ∀ (s : State) (p : DataPorts 32), s.data = .x32 p → ∃ l h,
    exec .sha512sig0l_32 s = .next { s with data := .x32 { p with rd := some l } } ∧
    exec .sha512sig0h_32 s = .next { s with data := .x32 { p with rd := some h } } ∧
    (p.rs2 = 0 → l = h) ∧
    ∀ i < 32,
      h.getLsbD i = (p.rs1.getLsbD (i + 1) ^^ p.rs1.getLsbD (i + 7) ^^ p.rs1.getLsbD (i + 8) ^^
        (decide (31 ≤ i) && p.rs2.getLsbD (i - 31)) ^^ (decide (24 ≤ i) && p.rs2.getLsbD (i - 24))) ∧
      l.getLsbD i = (h.getLsbD i ^^ (decide (25 ≤ i) && p.rs2.getLsbD (i - 25)))

/-- SHA512SIG1 at XLEN = 32, both values of `hl` (R94). The form with `hl` = 1 has no `b << 26`. -/
def Obligations.Sha512Sig1HalfResult32 : Prop :=
  encodedAs .sha512sig1l_32 .x32 12 ∧ ctlHl (encode .sha512sig1l_32) = false ∧
  encodedAs .sha512sig1h_32 .x32 12 ∧ ctlHl (encode .sha512sig1h_32) = true ∧
  ∀ (s : State) (p : DataPorts 32), s.data = .x32 p → ∃ l h,
    exec .sha512sig1l_32 s = .next { s with data := .x32 { p with rd := some l } } ∧
    exec .sha512sig1h_32 s = .next { s with data := .x32 { p with rd := some h } } ∧
    (p.rs2 = 0 → l = h) ∧
    ∀ i < 32,
      h.getLsbD i = ((decide (3 ≤ i) && p.rs1.getLsbD (i - 3)) ^^ p.rs1.getLsbD (i + 6) ^^ p.rs1.getLsbD (i + 19) ^^
        p.rs2.getLsbD (i + 29) ^^ (decide (13 ≤ i) && p.rs2.getLsbD (i - 13))) ∧
      l.getLsbD i = (h.getLsbD i ^^ (decide (26 ≤ i) && p.rs2.getLsbD (i - 26)))

/-- SHA512SUM0 at XLEN = 32 (R95). -/
def Obligations.Sha512Sum0HalfResult32 : Prop :=
  encodedAs .sha512sum0r_32 .x32 13 ∧
  ∀ (s : State) (p : DataPorts 32), s.data = .x32 p → ∃ rd,
    exec .sha512sum0r_32 s = .next { s with data := .x32 { p with rd := some rd } } ∧
    ∀ i < 32, rd.getLsbD i =
      ((decide (25 ≤ i) && p.rs1.getLsbD (i - 25)) ^^ (decide (30 ≤ i) && p.rs1.getLsbD (i - 30)) ^^
        p.rs1.getLsbD (i + 28) ^^ p.rs2.getLsbD (i + 7) ^^ p.rs2.getLsbD (i + 2) ^^
        (decide (4 ≤ i) && p.rs2.getLsbD (i - 4)))

/-- SHA512SUM1 at XLEN = 32 (R96). -/
def Obligations.Sha512Sum1HalfResult32 : Prop :=
  encodedAs .sha512sum1r_32 .x32 14 ∧
  ∀ (s : State) (p : DataPorts 32), s.data = .x32 p → ∃ rd,
    exec .sha512sum1r_32 s = .next { s with data := .x32 { p with rd := some rd } } ∧
    ∀ i < 32, rd.getLsbD i =
      ((decide (23 ≤ i) && p.rs1.getLsbD (i - 23)) ^^ p.rs1.getLsbD (i + 14) ^^ p.rs1.getLsbD (i + 18) ^^
        p.rs2.getLsbD (i + 9) ^^ (decide (18 ≤ i) && p.rs2.getLsbD (i - 18)) ^^
        (decide (14 ≤ i) && p.rs2.getLsbD (i - 14)))

/-! ### Properties across forms and widths -/

/-- The two-register forms at XLEN = 32 compose to the XLEN = 64 functions (R97): the low half with rs1 = L, rs2 = H and `hl` = 0,
the high half with rs1 = H, rs2 = L and `hl` = 1. R97 is the spec's own derivation, and the operand order is its resolution
of 90_conflicts.md C8 (log 15). -/
def Obligations.Sha512HalvesComposeTo64 : Prop :=
  ∀ (s : State) (x y : Word64), ∀ f ∈ [(Instr.sha512sig0l_32, Instr.sha512sig0h_32, Instr.sha512sig0_64),
      (Instr.sha512sig1l_32, Instr.sha512sig1h_32, Instr.sha512sig1_64),
      (Instr.sha512sum0r_32, Instr.sha512sum0r_32, Instr.sha512sum0_64),
      (Instr.sha512sum1r_32, Instr.sha512sum1r_32, Instr.sha512sum1_64)],
    ∃ l h, s.run32 f.1 (lo32 x) (hi32 x) = some l ∧ s.run32 f.2.1 (hi32 x) (lo32 x) = some h ∧
      s.run64 f.2.2 x y = some (h ++ l)

/-- DS inverts ES over the full state (R83, item 4, the spec's own derivation). -/
def Obligations.DsUndoesEsOnTheFullState : Prop :=
  ∀ (s : State) (lo hi : Word64), ∃ lo' hi', s.run64 .es_64 lo hi = some lo' ∧ s.run64 .es_64 hi lo = some hi' ∧
    s.run64 .ds_64 lo' hi' = some lo ∧ s.run64 .ds_64 hi' lo' = some hi

/-- One AES-128 key-expansion round is KS1, KS2, KS2: w4 = w0 ^ SubWord(RotWord(w3)) ^ rcon, and each later word is the XOR of its
two predecessors. -/
def Obligations.KeyScheduleExpandsOneRound : Prop :=
  ∀ (s : State) (w0 w1 w2 w3 : Word32) (rnum : BitVec 4) (y : Word64), rnum ≠ 10 →
    ∃ t w4 w5 w6 w7, w4 = w0 ^^^ subWord (rotr w3 8) ^^^ (rcon rnum).zeroExtend 32 ∧
      w5 = w1 ^^^ w4 ∧ w6 = w2 ^^^ w5 ∧ w7 = w3 ^^^ w6 ∧
      s.run64 (.ks1_64 rnum) (w3 ++ w2) y = some t ∧
      s.run64 .ks2_64 t (w1 ++ w0) = some (w5 ++ w4) ∧ s.run64 .ks2_64 (w5 ++ w4) (w3 ++ w2) = some (w7 ++ w6)

/-- The two widths compute one AES encryption round: four ES.32 (or ESM.32) evaluations over the columns that ShiftRows picks give the
column that ES.64 (or ESM.64) gives (it follows from R69 and R75; 95_test_vectors.md P3 uses it). -/
def Obligations.EncryptRoundAgreesAcrossWidths : Prop :=
  ∀ (s : State) (acc c0 c1 c2 c3 : Word32),
    ∀ f ∈ [(Instr.es_32, Instr.es_64), (Instr.esm_32, Instr.esm_64)],
      ∃ r, s.run64 f.2 (c1 ++ c0) (c3 ++ c2) = some r ∧
        s.foldColumn f.1 acc c0 c1 c2 c3 = some (acc ^^^ lo32 r) ∧
        s.foldColumn f.1 acc c1 c2 c3 c0 = some (acc ^^^ hi32 r)

/-- The two widths compute one AES decryption round: four DS.32 (or DSM.32) evaluations over the columns that InvShiftRows picks
give the column that DS.64 (or DSM.64) gives (it follows from R69, R75 and R67). -/
def Obligations.DecryptRoundAgreesAcrossWidths : Prop :=
  ∀ (s : State) (acc c0 c1 c2 c3 : Word32),
    ∀ f ∈ [(Instr.ds_32, Instr.ds_64), (Instr.dsm_32, Instr.dsm_64)],
      ∃ r, s.run64 f.2 (c1 ++ c0) (c3 ++ c2) = some r ∧
        s.foldColumn f.1 acc c0 c3 c2 c1 = some (acc ^^^ lo32 r) ∧
        s.foldColumn f.1 acc c1 c0 c3 c2 = some (acc ^^^ hi32 r)

/-! ### `rd` follows the inputs -/

/-- `rd` is at all times the function R102 gives of the current inputs (R26, R122, 92 D9): every way the host has to drive an input
leaves it so, and what is then on the driven ports is what was given. `rd` is current exactly when it holds the value that
`evaluate` gives, and no value where `evaluate` raises (R17, log 8). Three conventions here are the model's choice and no rule of
the spec: that a host drives a table word with `withFetchWord` (log 2), that of the word its low `nbits` bits cut to the 11 of CTL
are driven (log 5), and that of a given operand its low XLEN bits are driven (log 19). -/
def Obligations.RdFollowsTheInputsAtAllTimes : Prop :=
  (∀ (s : State) (ctl : Ctl), (s.withCtl ctl).rdCurrent ∧ (s.withCtl ctl).ctl = ctl) ∧
  (∀ (s : State) (nbits w : Nat), (s.withFetchWord nbits w).rdCurrent ∧
    (s.withFetchWord nbits w).ctl = BitVec.ofNat 11 (w % 2 ^ nbits)) ∧
  (∀ (s : State) (v : Bool), (s.withValid v).rdCurrent ∧ (s.withValid v).valid = v) ∧
  (∀ (s : State) (rs1 rs2 : Word64), (s.withOperands rs1 rs2).rdCurrent ∧
    (s.withOperands rs1 rs2).port .rs1 = rs1.toNat % 2 ^ s.xlen.bits ∧
    (s.withOperands rs1 rs2).port .rs2 = rs2.toNat % 2 ^ s.xlen.bits) ∧
  (∀ r : Request 32, (State.present32 r).rdCurrent ∧
    ∃ p, (State.present32 r).data = .x32 p ∧ (State.present32 r).request p.rs1 p.rs2 = r) ∧
  (∀ r : Request 64, (State.present64 r).rdCurrent ∧
    ∃ p, (State.present64 r).data = .x64 p ∧ (State.present64 r).request p.rs1 p.rs2 = r) ∧
  (∀ (s : State) (p : DataPorts 32), s.data = .x32 p →
    (s.rdCurrent ↔ p.rd = (evaluate32 (s.request p.rs1 p.rs2)).toOption)) ∧
  (∀ (s : State) (p : DataPorts 64), s.data = .x64 p →
    (s.rdCurrent ↔ p.rd = (evaluate64 (s.request p.rs1 p.rs2)).toOption))

/-- Where `rd` is current, it has a value exactly for the requests the core defines, and evaluating such a request changes nothing,
since `rd` was the function of the inputs already (R26, R109, R122; that the other requests give no value is the spec's decision,
92 D7 and D8). -/
def Obligations.EvaluatingACurrentCoreChangesNothing : Prop :=
  ∀ s : State, s.rdCurrent → (s.rdValue.isSome = s.legal) ∧ (s.legal = true → step s = .next s)
end

