-- ==== Sys2Proof/Laws/Bits.lean ====
section
/-! SUPPORT. The operators and the byte numbering of Operands.lean, each said once: bit by bit for rotations and halves, byte by
byte for words. -/

namespace Sys2Proof.Machine

/-! ### Rotations -/

/-- Bit `i` of a right rotation by `n` is bit `i + n`, counted round the word (R12). -/
theorem getLsbD_rotr {w : Nat} (v : BitVec w) (n i : Nat) (hi : i < w) :
    (rotr v n).getLsbD i = v.getLsbD ((i + n) % w) := by
  have hn : n % w < w := Nat.mod_lt _ (by omega)
  have e : (i + n) % w = if i + n % w < w then i + n % w else i + n % w - w := by
    rw [Nat.add_mod, Nat.mod_eq_of_lt hi]
    split
    · exact Nat.mod_eq_of_lt ‹_›
    · rw [Nat.mod_eq_sub_mod (by omega), Nat.mod_eq_of_lt (by omega)]
  simp only [rotr, BitVec.getLsbD_or, BitVec.getLsbD_ushiftRight, BitVec.getLsbD_shiftLeft, hi, decide_true, Bool.true_and]
  rw [e]
  split
  · simp [show i < w - n % w by omega, Nat.add_comm]
  · rw [BitVec.getLsbD_of_ge v (n % w + i) (by omega), show i - (w - n % w) = i + n % w - w by omega]
    simp [show ¬ i < w - n % w by omega]

/-- Bit `i` of a left rotation by `n` is bit `i - n`, counted round the word (R12). -/
theorem getLsbD_rotl {w : Nat} (v : BitVec w) (n i : Nat) (hi : i < w) :
    (rotl v n).getLsbD i = v.getLsbD ((i + (w - n % w)) % w) := getLsbD_rotr v _ i hi

/-! ### Bytes -/

/-- Bit `j` of byte `k` is bit `8k + j` of the word (R27). -/
theorem getLsbD_byteOf {w : Nat} (k : Nat) (v : BitVec w) (j : Nat) :
    (byteOf k v).getLsbD j = (decide (j < 8) && v.getLsbD (8 * k + j)) := by
  simp [byteOf, BitVec.getLsbD_extractLsb']

@[simp] theorem byteOf_xor {w : Nat} (k : Nat) (a b : BitVec w) : byteOf k (a ^^^ b) = byteOf k a ^^^ byteOf k b := by
  ext j hj; simp [byteOf]

/-- The bits of a word of four bytes, byte 0 lowest (R14). -/
theorem getLsbD_word4 (s : Vector Byte 4) (i : Nat) : (word4 s).getLsbD i =
    if i < 8 then s[0].getLsbD i else if i < 16 then s[1].getLsbD (i - 8)
    else if i < 24 then s[2].getLsbD (i - 16) else s[3].getLsbD (i - 24) := by
  have h : (word4 s).getLsbD i = (s[3] ++ s[2] ++ s[1] ++ s[0] : BitVec (8 + 8 + 8 + 8)).getLsbD i := rfl
  rw [h]
  simp only [BitVec.getLsbD_append, Nat.sub_sub, show i - 8 < 8 ↔ i < 16 by omega, show i - (8 + 8) < 8 ↔ i < 24 by omega]

/-- The bits of a word of eight bytes, byte 0 lowest (R14). -/
theorem getLsbD_word8 (s : Vector Byte 8) (i : Nat) : (word8 s).getLsbD i =
    if i < 8 then s[0].getLsbD i else if i < 16 then s[1].getLsbD (i - 8)
    else if i < 24 then s[2].getLsbD (i - 16) else if i < 32 then s[3].getLsbD (i - 24)
    else if i < 40 then s[4].getLsbD (i - 32) else if i < 48 then s[5].getLsbD (i - 40)
    else if i < 56 then s[6].getLsbD (i - 48) else s[7].getLsbD (i - 56) := by
  have h : (word8 s).getLsbD i =
      (s[7] ++ s[6] ++ s[5] ++ s[4] ++ s[3] ++ s[2] ++ s[1] ++ s[0] : BitVec (8 + 8 + 8 + 8 + 8 + 8 + 8 + 8)).getLsbD i := rfl
  rw [h]
  simp only [BitVec.getLsbD_append, Nat.sub_sub, show i - 8 < 8 ↔ i < 16 by omega, show i - (8 + 8) < 8 ↔ i < 24 by omega,
    show i - (8 + 8 + 8) < 8 ↔ i < 32 by omega, show i - (8 + 8 + 8 + 8) < 8 ↔ i < 40 by omega,
    show i - (8 + 8 + 8 + 8 + 8) < 8 ↔ i < 48 by omega, show i - (8 + 8 + 8 + 8 + 8 + 8) < 8 ↔ i < 56 by omega]

@[simp] theorem byteOf_word4 (s : Vector Byte 4) (k : Nat) (hk : k < 4) : byteOf k (word4 s) = s[k] := by
  refine BitVec.eq_of_getLsbD_eq fun j hj => ?_
  rw [getLsbD_byteOf, getLsbD_word4]
  have : k = 0 ∨ k = 1 ∨ k = 2 ∨ k = 3 := by omega
  rcases this with rfl | rfl | rfl | rfl <;> simp (disch := omega) only [hj, if_pos, if_neg] <;>
    simp [show ∀ n, n + j - n = j by omega]

@[simp] theorem byteOf_word8 (s : Vector Byte 8) (k : Nat) (hk : k < 8) : byteOf k (word8 s) = s[k] := by
  refine BitVec.eq_of_getLsbD_eq fun j hj => ?_
  rw [getLsbD_byteOf, getLsbD_word8]
  have : k = 0 ∨ k = 1 ∨ k = 2 ∨ k = 3 ∨ k = 4 ∨ k = 5 ∨ k = 6 ∨ k = 7 := by omega
  rcases this with rfl | rfl | rfl | rfl | rfl | rfl | rfl | rfl <;>
    simp (disch := omega) only [hj, if_pos, if_neg] <;> simp [show ∀ n, n + j - n = j by omega]

/-- Two words with the same bytes are equal (R14). -/
theorem ext_bytes {n : Nat} {a b : BitVec (8 * n)} (h : ∀ k < n, byteOf k a = byteOf k b) : a = b := by
  refine BitVec.eq_of_getLsbD_eq fun i hi => ?_
  have h1 : (byteOf (i / 8) a).getLsbD (i % 8) = (byteOf (i / 8) b).getLsbD (i % 8) := by rw [h _ (by omega)]
  rwa [getLsbD_byteOf, getLsbD_byteOf, decide_eq_true (Nat.mod_lt i (by decide)), Bool.true_and, Bool.true_and,
    Nat.div_add_mod] at h1

theorem ext_bytes32 {a b : Word32} (h : ∀ k < 4, byteOf k a = byteOf k b) : a = b := ext_bytes (n := 4) h
theorem ext_bytes64 {a b : Word64} (h : ∀ k < 8, byteOf k a = byteOf k b) : a = b := ext_bytes (n := 8) h

/-! ### Halves -/

theorem getLsbD_lo32 (v : Word64) (i : Nat) (h : i < 32) : (lo32 v).getLsbD i = v.getLsbD i := by
  simp [lo32, h]

theorem getLsbD_hi32 (v : Word64) (i : Nat) (h : i < 32) : (hi32 v).getLsbD i = v.getLsbD (32 + i) := by
  simp [hi32, h]

/-- The bits of two halves put together. -/
theorem getLsbD_concat64 (hi lo : Word32) (i : Nat) :
    (concat64 hi lo).getLsbD i = if i < 32 then lo.getLsbD i else hi.getLsbD (i - 32) :=
  BitVec.getLsbD_append (x := hi) (y := lo)

@[simp] theorem lo32_concat64 (hi lo : Word32) : lo32 (concat64 hi lo) = lo := by
  refine BitVec.eq_of_getLsbD_eq fun i h => ?_
  rw [getLsbD_lo32 _ _ h, getLsbD_concat64, if_pos h]

@[simp] theorem hi32_concat64 (hi lo : Word32) : hi32 (concat64 hi lo) = hi := by
  refine BitVec.eq_of_getLsbD_eq fun i h => ?_
  rw [getLsbD_hi32 _ _ h, getLsbD_concat64, if_neg (by omega), show 32 + i - 32 = i by omega]

/-- Two 64-bit words with the same halves are equal. -/
theorem ext_halves {a b : Word64} (hl : lo32 a = lo32 b) (hh : hi32 a = hi32 b) : a = b := by
  refine BitVec.eq_of_getLsbD_eq fun i h => ?_
  by_cases hi : i < 32
  · rw [← getLsbD_lo32 a i hi, ← getLsbD_lo32 b i hi, hl]
  · have := congrArg (fun v : Word32 => v.getLsbD (i - 32)) hh
    simp only [getLsbD_hi32 _ (i - 32) (by omega)] at this
    rwa [show 32 + (i - 32) = i by omega] at this

@[simp] theorem concat64_halves (v : Word64) : concat64 (hi32 v) (lo32 v) = v :=
  ext_halves (lo32_concat64 _ _) (hi32_concat64 _ _)

theorem byteOf_lo32 (k : Nat) (v : Word64) (h : k < 4) : byteOf k (lo32 v) = byteOf k v := by
  refine BitVec.eq_of_getLsbD_eq fun j hj => ?_
  rw [getLsbD_byteOf, getLsbD_byteOf, getLsbD_lo32 v _ (by omega)]

theorem byteOf_hi32 (k : Nat) (v : Word64) (h : k < 4) : byteOf k (hi32 v) = byteOf (k + 4) v := by
  refine BitVec.eq_of_getLsbD_eq fun j hj => ?_
  rw [getLsbD_byteOf, getLsbD_byteOf, getLsbD_hi32 v _ (by omega), show 32 + (8 * k + j) = 8 * (k + 4) + j by omega]

end Sys2Proof.Machine
end

