-- ==== Sys2Proof/Laws/Primitives.lean ====
section
/-! SUPPORT. One lemma per component of 40_primitives.md, for the callers to cite: linearity of the GF(2^8) multiplier, the bytes of
MixColumn, ShiftRowsDual and the bytewise substitution, and the BarrelShiftNetwork on the bytes of a word. -/

namespace Sys2Proof.Machine

/-! ### GF(2^8) (R55 to R57) -/

/-- Doubling is GF(2)-linear (R57). -/
theorem xt_xor (a b : Byte) : xt (a ^^^ b) = xt a ^^^ xt b := by
  unfold xt
  rw [BitVec.getLsbD_xor, BitVec.shiftLeft_xor_distrib]
  cases a.getLsbD 7 <;> cases b.getLsbD 7 <;> simp
  · ac_rfl
  · rw [show ∀ x y z : Byte, x ^^^ y ^^^ z = x ^^^ z ^^^ y from fun x y z => by ac_rfl]
  · rw [show ∀ x y z : Byte, (x ^^^ z) ^^^ (y ^^^ z) = (x ^^^ y) ^^^ (z ^^^ z) from fun x y z => by ac_rfl]
    simp

/-- A gated XOR is the XOR of the gated operands. -/
theorem gated_xor (c : Bool) (a b : Byte) :
    (if c then a ^^^ b else 0) = (if c then a else 0) ^^^ (if c then b else 0) := by
  cases c <;> simp

/-- The multiplier is GF(2)-linear in its byte operand (R57). -/
theorem multiply_xor (a b : Byte) (y : GfConst) : multiply (a ^^^ b) y = multiply a y ^^^ multiply b y := by
  simp only [multiply, xt_xor, gated_xor]
  ac_rfl

/-- Multiplying 0 gives 0 (R57). -/
@[simp] theorem multiply_zero (y : GfConst) : multiply 0 y = 0 := by
  simpa using multiply_xor 0 0 y

/-! ### Bytes of a rotated word -/

/-- Rotating a 32-bit word left by whole bytes moves each byte up, round the word (R54, item 5). -/
theorem byteOf_rotl32 (w : Word32) (k j : Nat) (hk : k < 4) (hj : j < 4) :
    byteOf k (rotl w (8 * j)) = byteOf ((k + (4 - j)) % 4) w := by
  refine BitVec.eq_of_getLsbD_eq fun i hi => ?_
  rw [getLsbD_byteOf, getLsbD_byteOf, getLsbD_rotl _ _ _ (by omega)]
  congr 2
  omega

/-- Rotating a 32-bit word right by whole bytes moves each byte down, round the word (R54, item 5). -/
theorem byteOf_rotr32 (w : Word32) (k j : Nat) (hk : k < 4) : byteOf k (rotr w (8 * j)) = byteOf ((k + j) % 4) w := by
  refine BitVec.eq_of_getLsbD_eq fun i hi => ?_
  rw [getLsbD_byteOf, getLsbD_byteOf, getLsbD_rotr _ _ _ (by omega)]
  congr 2
  omega

/-! ### The BarrelShiftNetwork (R49 to R54) -/

/-- Element `i` of a left rotation (R50). -/
theorem getElem_leftRotate {α : Type} {n : Nat} (z : α) (e : Vector α n) (k i : Nat) (h : i < n) :
    (barrelShift z e k .leftRotate)[i] = e[(i + (n - k % n)) % n]'(Nat.mod_lt _ (by omega)) := by
  simp [barrelShift]

/-- Element `i` of a right rotation (R51). -/
theorem getElem_rightRotate {α : Type} {n : Nat} (z : α) (e : Vector α n) (k i : Nat) (h : i < n) :
    (barrelShift z e k .rightRotate)[i] = e[(i + k) % n]'(Nat.mod_lt _ (by omega)) := by
  simp [barrelShift]

/-- Element `i` of a left shift (R52). -/
theorem getElem_leftShift {α : Type} {n : Nat} (z : α) (e : Vector α n) (k i : Nat) (h : i < n) :
    (barrelShift z e k .leftShift)[i] = if k ≤ i then e[i - k] else z := by
  simp [barrelShift]

/-- Element `i` of a right shift (R53). -/
theorem getElem_rightShift {α : Type} {n : Nat} (z : α) (e : Vector α n) (k i : Nat) (h : i < n) :
    (barrelShift z e k .rightShift)[i] = if h' : i + k < n then e[i + k] else z := by
  simp [barrelShift]

@[simp] theorem getElem_bytesOf4 (v : Word32) (k : Nat) (h : k < 4) : (bytesOf4 v)[k] = byteOf k v := by
  simp [bytesOf4]

@[simp] theorem getElem_bytesOf8 (v : Word64) (k : Nat) (h : k < 8) : (bytesOf8 v)[k] = byteOf k v := by
  simp [bytesOf8]

/-- Byte `k` of the word that the 32-bit AES datapath rotates through the network (R69). -/
theorem byteOf_word4_leftRotate (v : Word32) (j k : Nat) (hj : j < 4) (hk : k < 4) :
    byteOf k (word4 (barrelShift 0 (bytesOf4 v) j .leftRotate)) = byteOf ((k + (4 - j)) % 4) v := by
  rw [byteOf_word4 _ _ hk, getElem_leftRotate, getElem_bytesOf4]
  rw [Nat.mod_eq_of_lt hj]

/-! ### MixColumn (R62 to R64) -/

/-- The bytes of mixColumn8 for encrypt (R62). -/
theorem byteOf_mixColumn8_true (b : Byte) :
    byteOf 0 (mixColumn8 b true) = multiply b .c2 ∧ byteOf 1 (mixColumn8 b true) = b ∧
    byteOf 2 (mixColumn8 b true) = b ∧ byteOf 3 (mixColumn8 b true) = multiply b .c3 :=
  ⟨byteOf_word4 #v[multiply b .c2, b, b, multiply b .c3] 0 (by decide),
   byteOf_word4 #v[multiply b .c2, b, b, multiply b .c3] 1 (by decide),
   byteOf_word4 #v[multiply b .c2, b, b, multiply b .c3] 2 (by decide),
   byteOf_word4 #v[multiply b .c2, b, b, multiply b .c3] 3 (by decide)⟩

/-- The bytes of mixColumn8 for decrypt (R62). -/
theorem byteOf_mixColumn8_false (b : Byte) :
    byteOf 0 (mixColumn8 b false) = multiply b .cE ∧ byteOf 1 (mixColumn8 b false) = multiply b .c9 ∧
    byteOf 2 (mixColumn8 b false) = multiply b .cD ∧ byteOf 3 (mixColumn8 b false) = multiply b .cB :=
  ⟨byteOf_word4 #v[multiply b .cE, multiply b .c9, multiply b .cD, multiply b .cB] 0 (by decide),
   byteOf_word4 #v[multiply b .cE, multiply b .c9, multiply b .cD, multiply b .cB] 1 (by decide),
   byteOf_word4 #v[multiply b .cE, multiply b .c9, multiply b .cD, multiply b .cB] 2 (by decide),
   byteOf_word4 #v[multiply b .cE, multiply b .c9, multiply b .cD, multiply b .cB] 3 (by decide)⟩

/-- Byte `r` of mixColumn32 gathers one byte of each column product (R63). -/
theorem byteOf_mixColumn32 (w : Word32) (e : Bool) (r : Nat) (hr : r < 4) :
    byteOf r (mixColumn32 w e) =
      byteOf r (mixColumn8 (byteOf 0 w) e) ^^^ byteOf ((r + 3) % 4) (mixColumn8 (byteOf 1 w) e) ^^^
      byteOf ((r + 2) % 4) (mixColumn8 (byteOf 2 w) e) ^^^ byteOf ((r + 1) % 4) (mixColumn8 (byteOf 3 w) e) := by
  have h0 := byteOf_rotl32 (mixColumn8 (byteOf 0 w) e) r 0 hr (by decide)
  have h1 := byteOf_rotl32 (mixColumn8 (byteOf 1 w) e) r 1 hr (by decide)
  have h2 := byteOf_rotl32 (mixColumn8 (byteOf 2 w) e) r 2 hr (by decide)
  have h3 := byteOf_rotl32 (mixColumn8 (byteOf 3 w) e) r 3 hr (by decide)
  simp only [Nat.mul_zero, Nat.mul_one, Nat.reduceMul, Nat.reduceSub, Nat.sub_zero] at h0 h1 h2 h3
  rw [show (r + 4) % 4 = r by omega] at h0
  simp only [mixColumn32, byteOf_xor, h0, h1, h2, h3]

/-- The halves of mixColumn64 (R64). -/
@[simp] theorem lo32_mixColumn64 (w : Word64) (e : Bool) : lo32 (mixColumn64 w e) = mixColumn32 (lo32 w) e := by
  simp [mixColumn64]

@[simp] theorem hi32_mixColumn64 (w : Word64) (e : Bool) : hi32 (mixColumn64 w e) = mixColumn32 (hi32 w) e := by
  simp [mixColumn64]

/-! ### ShiftRowsDual and the bytewise substitution (R66, R75) -/

/-- Byte `j` of ShiftRowsDual (R66). -/
theorem byteOf_shiftRows (in1 in2 : Word64) (e : Bool) (j : Nat) (hj : j < 8) :
    byteOf j (shiftRows in1 in2 e) = stateByte in1 in2 (shiftRowsIndex e j) := by
  rw [shiftRows, byteOf_word8 _ _ hj, Vector.getElem_ofFn]

/-- Byte `j` of the bytewise substitution (R75, step 5). -/
theorem byteOf_substituteBytes (v : Word64) (fwd : Bool) (j : Nat) (hj : j < 8) :
    byteOf j (substituteBytes v fwd) = substitute (byteOf j v) fwd := by
  rw [substituteBytes, byteOf_word8 _ _ hj, Vector.getElem_ofFn]

end Sys2Proof.Machine
end

