-- ==== Sys2Proof/Laws/Aes.lean ====
section
/-! SUPPORT. The two AES datapaths, said once each: the bytes of `aes32`, and what `aes64` selects for each AES code. -/

namespace Sys2Proof.Machine

/-- The byte of the mixed word of `aes32` (R69). -/
theorem byteOf_zeroExtend_byte (b : Byte) (k : Nat) : byteOf k (b.zeroExtend 32 : Word32) = if k = 0 then b else 0 := by
  refine BitVec.eq_of_getLsbD_eq fun i hi => ?_
  rw [getLsbD_byteOf]
  by_cases hk : k = 0
  · subst hk; simp [hi]; intros; omega
  · simp [hk, show 8 ≤ 8 * k + i by omega]

/-- Byte `k` of a 32-bit AES round operation (R69). -/
theorem byteOf_aes32 (op : RoundOp) (bs : BitVec 2) (rs1 rs2 : Word32) (k : Nat) (hk : k < 4) :
    byteOf k (aes32 op bs rs1 rs2) = byteOf k rs1 ^^^
      (if roundMixes op then
        byteOf ((k + (4 - bs.toNat)) % 4) (mixColumn8 (substitute (byteOf bs.toNat rs2) (roundEncrypts op)) (roundEncrypts op))
      else if k = bs.toNat then substitute (byteOf bs.toNat rs2) (roundEncrypts op) else 0) := by
  have hb : bs.toNat < 4 := bs.isLt
  simp only [aes32, byteOf_xor, byteOf_word4_leftRotate _ _ _ hb hk]
  split
  · rfl
  · rw [byteOf_zeroExtend_byte]
    simp only [show (k + (4 - bs.toNat)) % 4 = 0 ↔ k = bs.toNat by omega]

/-- A 64-bit round operation: ShiftRows and SubBytes, then MixColumns where the code has it (R76 to R79). `rnum` is not read. -/
theorem aes64_round (op : RoundOp) (rnum : BitVec 4) (rs1 rs2 : Word64) :
    aes64 (.round op) rnum rs1 rs2 =
      if roundMixes op then
        mixColumn64 (substituteBytes (shiftRows rs1 rs2 (roundEncrypts op)) (roundEncrypts op)) (roundEncrypts op)
      else substituteBytes (shiftRows rs1 rs2 (roundEncrypts op)) (roundEncrypts op) := by
  cases op <;> rfl

/-- IM: InvMixColumns of the first operand (R80). -/
theorem aes64_im (rnum : BitVec 4) (rs1 rs2 : Word64) : aes64 .im rnum rs1 rs2 = mixColumn64 rs1 false := rfl

/-- KS2: the XOR chain (R82). -/
theorem aes64_ks2 (rnum : BitVec 4) (rs1 rs2 : Word64) :
    aes64 .ks2 rnum rs1 rs2 =
      concat64 (hi32 rs1 ^^^ lo32 rs2 ^^^ hi32 rs2) (hi32 rs1 ^^^ lo32 rs2) := rfl

/-- KS1: both halves are the substituted word with the round constant (R81). -/
theorem aes64_ks1 (rnum : BitVec 4) (rs1 rs2 : Word64) :
    aes64 .ks1 rnum rs1 rs2 =
      let t := lo32 (substituteBytes ((ks1Word rnum rs1).zeroExtend 64) true) ^^^ (rcon rnum).zeroExtend 32
      concat64 t t := rfl

end Sys2Proof.Machine
end

