-- ==== Sys2Proof/Laws/State.lean ====
section
/-! SUPPORT. The small lemmas of State: one per field per update, the control vector read back from the ports, and what
settling `rd` leaves alone. -/

namespace Sys2Proof.Machine

/-! ### Packing and unpacking CTL -/

/-- The bits of a control vector, field by field (R38). -/
theorem getLsbD_packCtl (fn : BitVec 4) (hl : Bool) (bs : BitVec 2) (rnum : BitVec 4) (i : Nat) :
    (packCtl fn hl bs rnum).getLsbD i =
      if i < 4 then fn.getLsbD i else if i < 5 then hl else if i < 7 then bs.getLsbD (i - 5) else rnum.getLsbD (i - 7) := by
  have h : (packCtl fn hl bs rnum).getLsbD i = (rnum ++ bs ++ BitVec.ofBool hl ++ fn : BitVec (4 + 2 + 1 + 4)).getLsbD i := rfl
  rw [h]
  simp only [BitVec.getLsbD_append, Nat.sub_sub, show i - 4 < 1 ↔ i < 5 by omega, show i - (4 + 1) < 2 ↔ i < 7 by omega]
  split
  · rfl
  · split
    · rw [show i - 4 = 0 by omega]; simp
    · rfl

@[simp] theorem ctlFn_packCtl (fn hl bs rnum) : ctlFn (packCtl fn hl bs rnum) = fn := by
  refine BitVec.eq_of_getLsbD_eq fun i hi => ?_
  simp [ctlFn, getLsbD_packCtl, hi]

@[simp] theorem ctlHl_packCtl (fn hl bs rnum) : ctlHl (packCtl fn hl bs rnum) = hl := by
  rw [ctlHl, getLsbD_packCtl]; rfl

@[simp] theorem ctlBs_packCtl (fn hl bs rnum) : ctlBs (packCtl fn hl bs rnum) = bs := by
  refine BitVec.eq_of_getLsbD_eq fun i hi => ?_
  simp only [ctlBs, BitVec.getLsbD_extractLsb', getLsbD_packCtl]
  simp (disch := omega) only [hi, if_neg, if_pos, Nat.add_sub_cancel_left, decide_true, Bool.true_and]

@[simp] theorem ctlRnum_packCtl (fn hl bs rnum) : ctlRnum (packCtl fn hl bs rnum) = rnum := by
  refine BitVec.eq_of_getLsbD_eq fun i hi => ?_
  simp only [ctlRnum, BitVec.getLsbD_extractLsb', getLsbD_packCtl]
  simp (disch := omega) only [hi, if_neg, Nat.add_sub_cancel_left, decide_true, Bool.true_and]

/-- A control vector is its four fields. -/
@[simp] theorem packCtl_fields (ctl : Ctl) : packCtl (ctlFn ctl) (ctlHl ctl) (ctlBs ctl) (ctlRnum ctl) = ctl := by
  refine BitVec.eq_of_getLsbD_eq fun i hi => ?_
  rw [getLsbD_packCtl]
  simp only [ctlFn, ctlHl, ctlBs, ctlRnum, BitVec.getLsbD_extractLsb']
  by_cases h4 : i < 4
  · simp [h4]
  · by_cases h5 : i < 5
    · obtain rfl : i = 4 := by omega
      rfl
    · by_cases h7 : i < 7
      · simp [h4, h5, h7, show i - 5 < 2 by omega, show 5 + (i - 5) = i by omega]
      · simp [h4, h5, h7, show i - 7 < 4 by omega, show 7 + (i - 7) = i by omega]

/-! ### XLEN of a state -/

@[simp] theorem xlen_x32 (s : State) (p : DataPorts 32) : State.xlen { s with data := .x32 p } = .x32 := rfl
@[simp] theorem xlen_x64 (s : State) (p : DataPorts 64) : State.xlen { s with data := .x64 p } = .x64 := rfl

theorem xlen_of_x32 {s : State} {p : DataPorts 32} (h : s.data = .x32 p) : s.xlen = .x32 := by simp [State.xlen, h]
theorem xlen_of_x64 {s : State} {p : DataPorts 64} (h : s.data = .x64 p) : s.xlen = .x64 := by simp [State.xlen, h]

/-- The XLEN is the width of the data ports. -/
theorem xlen_eq_x32 {s : State} : s.xlen = .x32 ↔ ∃ p, s.data = .x32 p := by
  cases hd : s.data <;> simp [State.xlen, hd]

theorem xlen_eq_x64 {s : State} : s.xlen = .x64 ↔ ∃ p, s.data = .x64 p := by
  cases hd : s.data <;> simp [State.xlen, hd]

/-! ### The control vector -/

@[simp] theorem ctl_with_data (s : State) (d : Datapath) : State.ctl { s with data := d } = s.ctl := rfl
@[simp] theorem ctl_with_valid (s : State) (v : Bool) : State.ctl { s with valid := v } = s.ctl := rfl
@[simp] theorem ctlFn_ctl (s : State) : ctlFn s.ctl = s.fn := by simp [State.ctl]
@[simp] theorem ctlHl_ctl (s : State) : ctlHl s.ctl = s.hl := by simp [State.ctl]
@[simp] theorem ctlBs_ctl (s : State) : ctlBs s.ctl = s.bs := by simp [State.ctl]
@[simp] theorem ctlRnum_ctl (s : State) : ctlRnum s.ctl = s.rnum := by simp [State.ctl]

/-! ### Settling `rd` -/

@[simp] theorem settle_fn (s : State) : s.settle.fn = s.fn := by unfold State.settle; split <;> rfl
@[simp] theorem settle_hl (s : State) : s.settle.hl = s.hl := by unfold State.settle; split <;> rfl
@[simp] theorem settle_bs (s : State) : s.settle.bs = s.bs := by unfold State.settle; split <;> rfl
@[simp] theorem settle_rnum (s : State) : s.settle.rnum = s.rnum := by unfold State.settle; split <;> rfl
@[simp] theorem settle_valid (s : State) : s.settle.valid = s.valid := by unfold State.settle; split <;> rfl
@[simp] theorem settle_ctl (s : State) : s.settle.ctl = s.ctl := by unfold State.settle; split <;> rfl

@[simp] theorem settle_xlen (s : State) : s.settle.xlen = s.xlen := by
  unfold State.settle State.xlen
  cases s.data <;> rfl

@[simp] theorem settle_port (s : State) (q : Port) : s.settle.port q = s.port q := by
  unfold State.settle State.port
  cases s.data <;> cases q <;> rfl

/-- What settling leaves on the data ports of a 32-bit core. -/
theorem settle_x32 {s : State} {p : DataPorts 32} (h : s.data = .x32 p) :
    s.settle = { s with data := .x32 { p with rd := outputOf (evaluate32 (s.request p.rs1 p.rs2)) } } := by
  unfold State.settle; rw [h]

/-- What settling leaves on the data ports of a 64-bit core. -/
theorem settle_x64 {s : State} {p : DataPorts 64} (h : s.data = .x64 p) :
    s.settle = { s with data := .x64 { p with rd := outputOf (evaluate64 (s.request p.rs1 p.rs2)) } } := by
  unfold State.settle; rw [h]

/-- `rd` is settled once: settling reads the inputs only. -/
@[simp] theorem settle_settle (s : State) : s.settle.settle = s.settle := by
  unfold State.settle; cases s.data <;> rfl

@[simp] theorem outputOf_eq_toOption {w : Nat} (e : Except InvalidOperation (BitVec w)) : outputOf e = e.toOption := by
  cases e <;> rfl

/-! ### Driving the inputs -/

@[simp] theorem withCtl_fn (s : State) (c : Ctl) : (s.withCtl c).fn = ctlFn c := by simp [State.withCtl]
@[simp] theorem withCtl_hl (s : State) (c : Ctl) : (s.withCtl c).hl = ctlHl c := by simp [State.withCtl]
@[simp] theorem withCtl_bs (s : State) (c : Ctl) : (s.withCtl c).bs = ctlBs c := by simp [State.withCtl]
@[simp] theorem withCtl_rnum (s : State) (c : Ctl) : (s.withCtl c).rnum = ctlRnum c := by simp [State.withCtl]
@[simp] theorem withCtl_valid (s : State) (c : Ctl) : (s.withCtl c).valid = s.valid := by simp [State.withCtl]
@[simp] theorem withCtl_xlen (s : State) (c : Ctl) : (s.withCtl c).xlen = s.xlen := (settle_xlen _).trans rfl
@[simp] theorem withCtl_ctl (s : State) (c : Ctl) : (s.withCtl c).ctl = c := by simp [State.ctl]
@[simp] theorem withCtl_rs1 (s : State) (c : Ctl) : (s.withCtl c).port .rs1 = s.port .rs1 :=
  (settle_port _ _).trans rfl
@[simp] theorem withCtl_rs2 (s : State) (c : Ctl) : (s.withCtl c).port .rs2 = s.port .rs2 :=
  (settle_port _ _).trans rfl

@[simp] theorem withFetchWord_valid (s : State) (n w : Nat) : (s.withFetchWord n w).valid = s.valid := by
  simp [State.withFetchWord]
@[simp] theorem withFetchWord_xlen (s : State) (n w : Nat) : (s.withFetchWord n w).xlen = s.xlen := by
  simp [State.withFetchWord]
@[simp] theorem withFetchWord_ctl (s : State) (n w : Nat) :
    (s.withFetchWord n w).ctl = BitVec.ofNat 11 (w % 2 ^ n) := by simp [State.withFetchWord]
@[simp] theorem withFetchWord_rs1 (s : State) (n w : Nat) : (s.withFetchWord n w).port .rs1 = s.port .rs1 := by
  simp [State.withFetchWord]
@[simp] theorem withFetchWord_rs2 (s : State) (n w : Nat) : (s.withFetchWord n w).port .rs2 = s.port .rs2 := by
  simp [State.withFetchWord]

@[simp] theorem withValid_valid (s : State) (v : Bool) : (s.withValid v).valid = v := by simp [State.withValid]
@[simp] theorem withValid_ctl (s : State) (v : Bool) : (s.withValid v).ctl = s.ctl := by simp [State.withValid]
@[simp] theorem withValid_xlen (s : State) (v : Bool) : (s.withValid v).xlen = s.xlen := (settle_xlen _).trans rfl

@[simp] theorem withOperands_valid (s : State) (a b : Word64) : (s.withOperands a b).valid = s.valid := by
  unfold State.withOperands; split <;> simp
@[simp] theorem withOperands_ctl (s : State) (a b : Word64) : (s.withOperands a b).ctl = s.ctl := by
  unfold State.withOperands; split <;> simp
@[simp] theorem withOperands_xlen (s : State) (a b : Word64) : (s.withOperands a b).xlen = s.xlen := by
  unfold State.withOperands
  split
  case h_1 p h => rw [settle_xlen, xlen_of_x32 h]; rfl
  case h_2 p h => rw [settle_xlen, xlen_of_x64 h]; rfl

/-! ### Presenting a request -/

@[simp] theorem present32_data (r : Request 32) :
    (State.present32 r).data = .x32 ⟨r.rs1, r.rs2, outputOf (evaluate32 r)⟩ := rfl
@[simp] theorem present64_data (r : Request 64) :
    (State.present64 r).data = .x64 ⟨r.rs1, r.rs2, outputOf (evaluate64 r)⟩ := rfl
@[simp] theorem present32_request (r : Request 32) : (State.present32 r).request r.rs1 r.rs2 = r := rfl
@[simp] theorem present64_request (r : Request 64) : (State.present64 r).request r.rs1 r.rs2 = r := rfl

end Sys2Proof.Machine
end

