-- ==== Sys2Proof/Laws/Ops.lean ====
section
/-! SUPPORT. Everything the shared operations of an evaluation can do: `drive32`, `drive64` and `raiseInvalidOperation`. -/

namespace Sys2Proof.Machine

/-- On a 32-bit core `drive32` completes and changes `rd` alone. -/
theorem drive32_x32 {s : State} {p : DataPorts 32} (h : s.data = .x32 p) (f : Word32 → Word32 → Word32) :
    s.drive32 f = .next { s with data := .x32 { p with rd := some (f p.rs1 p.rs2) } } := by
  simp [State.drive32, h]

/-- On a 64-bit core `drive64` completes and changes `rd` alone. -/
theorem drive64_x64 {s : State} {p : DataPorts 64} (h : s.data = .x64 p) (f : Word64 → Word64 → Word64) :
    s.drive64 f = .next { s with data := .x64 { p with rd := some (f p.rs1 p.rs2) } } := by
  simp [State.drive64, h]

theorem drive32_x64 {s : State} {p : DataPorts 64} (h : s.data = .x64 p) (f : Word32 → Word32 → Word32) :
    s.drive32 f = .refused .formOfOtherXlen := by
  simp [State.drive32, h]

theorem drive64_x32 {s : State} {p : DataPorts 32} (h : s.data = .x32 p) (f : Word64 → Word64 → Word64) :
    s.drive64 f = .refused .formOfOtherXlen := by
  simp [State.drive64, h]

/-- All that `drive32` can do when it answers a next state. -/
theorem drive32_next {s t : State} {f : Word32 → Word32 → Word32} :
    s.drive32 f = .next t ↔ ∃ p, s.data = .x32 p ∧ t = { s with data := .x32 { p with rd := some (f p.rs1 p.rs2) } } := by
  cases h : s.data with
  | x32 p => simp [drive32_x32 h, eq_comm]
  | x64 p => simp [drive32_x64 h]

/-- All that `drive64` can do when it answers a next state. -/
theorem drive64_next {s t : State} {f : Word64 → Word64 → Word64} :
    s.drive64 f = .next t ↔ ∃ p, s.data = .x64 p ∧ t = { s with data := .x64 { p with rd := some (f p.rs1 p.rs2) } } := by
  cases h : s.data with
  | x32 p => simp [drive64_x32 h]
  | x64 p => simp [drive64_x64 h, eq_comm]

theorem drive32_ne_fault {s : State} {f : Word32 → Word32 → Word32} {r : Fault} : s.drive32 f ≠ .fault r := by
  cases h : s.data with
  | x32 p => simp [drive32_x32 h]
  | x64 p => simp [drive32_x64 h]

theorem drive64_ne_fault {s : State} {f : Word64 → Word64 → Word64} {r : Fault} : s.drive64 f ≠ .fault r := by
  cases h : s.data with
  | x32 p => simp [drive64_x32 h]
  | x64 p => simp [drive64_x64 h]

/-- Raising InvalidOperation records `fn` and gives no state (R110). -/
@[simp] theorem raiseInvalidOperation_eq (e : InvalidOperation) :
    raiseInvalidOperation e = .fault (.invalidOperation e.fn) := rfl

end Sys2Proof.Machine
end

