-- ==== Sys2Proof/Laws/Exec.lean ====
section
/-! SUPPORT. What each form drives onto `rd`, one equation per form, for the provers to rewrite with before they cite
`drive32_x32` and `drive64_x64`. -/

namespace Sys2Proof.Machine

/-- DS.32 (R70). -/
@[simp] theorem exec_ds_32 (s : State) (bs : BitVec 2) :
    exec (.ds_32 bs) s = s.drive32 (aes32 .ds bs) := rfl

/-- DSM.32 (R71). -/
@[simp] theorem exec_dsm_32 (s : State) (bs : BitVec 2) :
    exec (.dsm_32 bs) s = s.drive32 (aes32 .dsm bs) := rfl

/-- ES.32 (R72). -/
@[simp] theorem exec_es_32 (s : State) (bs : BitVec 2) :
    exec (.es_32 bs) s = s.drive32 (aes32 .es bs) := rfl

/-- ESM.32 (R73). -/
@[simp] theorem exec_esm_32 (s : State) (bs : BitVec 2) :
    exec (.esm_32 bs) s = s.drive32 (aes32 .esm bs) := rfl

/-- ES.64 (R76). -/
@[simp] theorem exec_es_64 (s : State) :
    exec .es_64 s = s.drive64 (aes64 (.round .es) s.rnum) := rfl

/-- ESM.64 (R77). -/
@[simp] theorem exec_esm_64 (s : State) :
    exec .esm_64 s = s.drive64 (aes64 (.round .esm) s.rnum) := rfl

/-- DS.64 (R78). -/
@[simp] theorem exec_ds_64 (s : State) :
    exec .ds_64 s = s.drive64 (aes64 (.round .ds) s.rnum) := rfl

/-- DSM.64 (R79). -/
@[simp] theorem exec_dsm_64 (s : State) :
    exec .dsm_64 s = s.drive64 (aes64 (.round .dsm) s.rnum) := rfl

/-- IM.64 (R80). -/
@[simp] theorem exec_im_64 (s : State) :
    exec .im_64 s = s.drive64 (aes64 .im s.rnum) := rfl

/-- KS1.64 (R81). -/
@[simp] theorem exec_ks1_64 (s : State) (rnum : BitVec 4) :
    exec (.ks1_64 rnum) s = s.drive64 (aes64 .ks1 rnum) := rfl

/-- KS2.64 (R82). -/
@[simp] theorem exec_ks2_64 (s : State) :
    exec .ks2_64 s = s.drive64 (aes64 .ks2 s.rnum) := rfl

/-- SHA256SIG0 at XLEN = 32 (R85). -/
@[simp] theorem exec_sha256sig0_32 (s : State) :
    exec .sha256sig0_32 s = s.drive32 fun rs1 _ => sha256Sig0 rs1 := rfl

/-- SHA256SIG0 at XLEN = 64 (R85). -/
@[simp] theorem exec_sha256sig0_64 (s : State) :
    exec .sha256sig0_64 s = s.drive64 fun rs1 _ => widened sha256Sig0 rs1 := rfl

/-- SHA256SIG1 at XLEN = 32 (R86). -/
@[simp] theorem exec_sha256sig1_32 (s : State) :
    exec .sha256sig1_32 s = s.drive32 fun rs1 _ => sha256Sig1 rs1 := rfl

/-- SHA256SIG1 at XLEN = 64 (R86). -/
@[simp] theorem exec_sha256sig1_64 (s : State) :
    exec .sha256sig1_64 s = s.drive64 fun rs1 _ => widened sha256Sig1 rs1 := rfl

/-- SHA256SUM0 at XLEN = 32 (R87). -/
@[simp] theorem exec_sha256sum0_32 (s : State) :
    exec .sha256sum0_32 s = s.drive32 fun rs1 _ => sha256Sum0 rs1 := rfl

/-- SHA256SUM0 at XLEN = 64 (R87). -/
@[simp] theorem exec_sha256sum0_64 (s : State) :
    exec .sha256sum0_64 s = s.drive64 fun rs1 _ => widened sha256Sum0 rs1 := rfl

/-- SHA256SUM1 at XLEN = 32 (R88). -/
@[simp] theorem exec_sha256sum1_32 (s : State) :
    exec .sha256sum1_32 s = s.drive32 fun rs1 _ => sha256Sum1 rs1 := rfl

/-- SHA256SUM1 at XLEN = 64 (R88). -/
@[simp] theorem exec_sha256sum1_64 (s : State) :
    exec .sha256sum1_64 s = s.drive64 fun rs1 _ => widened sha256Sum1 rs1 := rfl

/-- SHA512SIG0 at XLEN = 64 (R89). -/
@[simp] theorem exec_sha512sig0_64 (s : State) :
    exec .sha512sig0_64 s = s.drive64 fun rs1 _ => sha512Sig0 rs1 := rfl

/-- SHA512SIG1 at XLEN = 64 (R90). -/
@[simp] theorem exec_sha512sig1_64 (s : State) :
    exec .sha512sig1_64 s = s.drive64 fun rs1 _ => sha512Sig1 rs1 := rfl

/-- SHA512SUM0 at XLEN = 64 (R91). -/
@[simp] theorem exec_sha512sum0_64 (s : State) :
    exec .sha512sum0_64 s = s.drive64 fun rs1 _ => sha512Sum0 rs1 := rfl

/-- SHA512SUM1 at XLEN = 64 (R92). -/
@[simp] theorem exec_sha512sum1_64 (s : State) :
    exec .sha512sum1_64 s = s.drive64 fun rs1 _ => sha512Sum1 rs1 := rfl

/-- SHA512SIG0L (R93). -/
@[simp] theorem exec_sha512sig0l_32 (s : State) :
    exec .sha512sig0l_32 s = s.drive32 (sha512Sig0Half false) := rfl

/-- SHA512SIG0H (R93). -/
@[simp] theorem exec_sha512sig0h_32 (s : State) :
    exec .sha512sig0h_32 s = s.drive32 (sha512Sig0Half true) := rfl

/-- SHA512SIG1L (R94). -/
@[simp] theorem exec_sha512sig1l_32 (s : State) :
    exec .sha512sig1l_32 s = s.drive32 (sha512Sig1Half false) := rfl

/-- SHA512SIG1H (R94). -/
@[simp] theorem exec_sha512sig1h_32 (s : State) :
    exec .sha512sig1h_32 s = s.drive32 (sha512Sig1Half true) := rfl

/-- SHA512SUM0R (R95). -/
@[simp] theorem exec_sha512sum0r_32 (s : State) :
    exec .sha512sum0r_32 s = s.drive32 sha512Sum0Half := rfl

/-- SHA512SUM1R (R96). -/
@[simp] theorem exec_sha512sum1r_32 (s : State) :
    exec .sha512sum1r_32 s = s.drive32 sha512Sum1Half := rfl

/-- All that `exec` can do: a form drives `rd` of a core of its own XLEN. -/
theorem exec_cases (i : Instr) (s : State) :
    (i.xlen = .x32 ∧ ∃ f, exec i s = s.drive32 f) ∨ (i.xlen = .x64 ∧ ∃ f, exec i s = s.drive64 f) :=
  match i with
  | .ds_64 => .inr ⟨rfl, _, exec_ds_64 s⟩
  | .dsm_64 => .inr ⟨rfl, _, exec_dsm_64 s⟩
  | .es_64 => .inr ⟨rfl, _, exec_es_64 s⟩
  | .esm_64 => .inr ⟨rfl, _, exec_esm_64 s⟩
  | .im_64 => .inr ⟨rfl, _, exec_im_64 s⟩
  | .ks1_64 rnum => .inr ⟨rfl, _, exec_ks1_64 s rnum⟩
  | .ks2_64 => .inr ⟨rfl, _, exec_ks2_64 s⟩
  | .sha256sig0_64 => .inr ⟨rfl, _, exec_sha256sig0_64 s⟩
  | .sha256sig1_64 => .inr ⟨rfl, _, exec_sha256sig1_64 s⟩
  | .sha256sum0_64 => .inr ⟨rfl, _, exec_sha256sum0_64 s⟩
  | .sha256sum1_64 => .inr ⟨rfl, _, exec_sha256sum1_64 s⟩
  | .sha512sig0_64 => .inr ⟨rfl, _, exec_sha512sig0_64 s⟩
  | .sha512sig1_64 => .inr ⟨rfl, _, exec_sha512sig1_64 s⟩
  | .sha512sum0_64 => .inr ⟨rfl, _, exec_sha512sum0_64 s⟩
  | .sha512sum1_64 => .inr ⟨rfl, _, exec_sha512sum1_64 s⟩
  | .ds_32 bs => .inl ⟨rfl, _, exec_ds_32 s bs⟩
  | .dsm_32 bs => .inl ⟨rfl, _, exec_dsm_32 s bs⟩
  | .es_32 bs => .inl ⟨rfl, _, exec_es_32 s bs⟩
  | .esm_32 bs => .inl ⟨rfl, _, exec_esm_32 s bs⟩
  | .sha256sig0_32 => .inl ⟨rfl, _, exec_sha256sig0_32 s⟩
  | .sha256sig1_32 => .inl ⟨rfl, _, exec_sha256sig1_32 s⟩
  | .sha256sum0_32 => .inl ⟨rfl, _, exec_sha256sum0_32 s⟩
  | .sha256sum1_32 => .inl ⟨rfl, _, exec_sha256sum1_32 s⟩
  | .sha512sig0l_32 => .inl ⟨rfl, _, exec_sha512sig0l_32 s⟩
  | .sha512sig0h_32 => .inl ⟨rfl, _, exec_sha512sig0h_32 s⟩
  | .sha512sig1l_32 => .inl ⟨rfl, _, exec_sha512sig1l_32 s⟩
  | .sha512sig1h_32 => .inl ⟨rfl, _, exec_sha512sig1h_32 s⟩
  | .sha512sum0r_32 => .inl ⟨rfl, _, exec_sha512sum0r_32 s⟩
  | .sha512sum1r_32 => .inl ⟨rfl, _, exec_sha512sum1r_32 s⟩

end Sys2Proof.Machine
end

