-- ==== Sys2Proof/Laws/PerInstr.lean ====
section
/-! SUPPORT. Statements about every form, one lemma per constructor. -/

namespace Sys2Proof.Laws

/-- Exactly one row of the opcode map of the form's XLEN is selected by the form's encoding, and it is the form's own row
(30_encoding.md R46). -/
def OneRow.Statement (i : Instr) : Prop :=
  ((opcodeMap i.xlen).filter (fun r => r.selects (encode i))).map (fun r => r.form (encode i)) = [i]

theorem OneRow.ds_64 : OneRow.Statement .ds_64 := by
  unfold OneRow.Statement; decide

theorem OneRow.dsm_64 : OneRow.Statement .dsm_64 := by
  unfold OneRow.Statement; decide

theorem OneRow.es_64 : OneRow.Statement .es_64 := by
  unfold OneRow.Statement; decide

theorem OneRow.esm_64 : OneRow.Statement .esm_64 := by
  unfold OneRow.Statement; decide

theorem OneRow.im_64 : OneRow.Statement .im_64 := by
  unfold OneRow.Statement; decide

theorem OneRow.ks1_64 : ∀ rnum : BitVec 4, OneRow.Statement (.ks1_64 rnum) := by
  unfold OneRow.Statement; decide

theorem OneRow.ks2_64 : OneRow.Statement .ks2_64 := by
  unfold OneRow.Statement; decide

theorem OneRow.sha256sig0_64 : OneRow.Statement .sha256sig0_64 := by
  unfold OneRow.Statement; decide

theorem OneRow.sha256sig1_64 : OneRow.Statement .sha256sig1_64 := by
  unfold OneRow.Statement; decide

theorem OneRow.sha256sum0_64 : OneRow.Statement .sha256sum0_64 := by
  unfold OneRow.Statement; decide

theorem OneRow.sha256sum1_64 : OneRow.Statement .sha256sum1_64 := by
  unfold OneRow.Statement; decide

theorem OneRow.sha512sig0_64 : OneRow.Statement .sha512sig0_64 := by
  unfold OneRow.Statement; decide

theorem OneRow.sha512sig1_64 : OneRow.Statement .sha512sig1_64 := by
  unfold OneRow.Statement; decide

theorem OneRow.sha512sum0_64 : OneRow.Statement .sha512sum0_64 := by
  unfold OneRow.Statement; decide

theorem OneRow.sha512sum1_64 : OneRow.Statement .sha512sum1_64 := by
  unfold OneRow.Statement; decide

theorem OneRow.ds_32 : ∀ bs : BitVec 2, OneRow.Statement (.ds_32 bs) := by
  unfold OneRow.Statement; decide

theorem OneRow.dsm_32 : ∀ bs : BitVec 2, OneRow.Statement (.dsm_32 bs) := by
  unfold OneRow.Statement; decide

theorem OneRow.es_32 : ∀ bs : BitVec 2, OneRow.Statement (.es_32 bs) := by
  unfold OneRow.Statement; decide

theorem OneRow.esm_32 : ∀ bs : BitVec 2, OneRow.Statement (.esm_32 bs) := by
  unfold OneRow.Statement; decide

theorem OneRow.sha256sig0_32 : OneRow.Statement .sha256sig0_32 := by
  unfold OneRow.Statement; decide

theorem OneRow.sha256sig1_32 : OneRow.Statement .sha256sig1_32 := by
  unfold OneRow.Statement; decide

theorem OneRow.sha256sum0_32 : OneRow.Statement .sha256sum0_32 := by
  unfold OneRow.Statement; decide

theorem OneRow.sha256sum1_32 : OneRow.Statement .sha256sum1_32 := by
  unfold OneRow.Statement; decide

theorem OneRow.sha512sig0l_32 : OneRow.Statement .sha512sig0l_32 := by
  unfold OneRow.Statement; decide

theorem OneRow.sha512sig0h_32 : OneRow.Statement .sha512sig0h_32 := by
  unfold OneRow.Statement; decide

theorem OneRow.sha512sig1l_32 : OneRow.Statement .sha512sig1l_32 := by
  unfold OneRow.Statement; decide

theorem OneRow.sha512sig1h_32 : OneRow.Statement .sha512sig1h_32 := by
  unfold OneRow.Statement; decide

theorem OneRow.sha512sum0r_32 : OneRow.Statement .sha512sum0r_32 := by
  unfold OneRow.Statement; decide

theorem OneRow.sha512sum1r_32 : OneRow.Statement .sha512sum1r_32 := by
  unfold OneRow.Statement; decide

end Sys2Proof.Laws
end

