-- ==== Sys2Proof/Machine/Flags.lean ====
section
/-! DEFINITION. "The core has no status flags, condition codes or predicates. No operation produces any output other than `rd`"
(10_state.md R21). So there is no flag computation to give: the type of flags is empty. -/

namespace Sys2Proof.Machine

/-- The status flags of the core: none (R21). -/
inductive Flag where
deriving DecidableEq, Repr

/-- The flags a form writes: every instruction rule's "Flags: none" (R21). -/
def flagsWritten (_ : Instr) : List Flag := []

end Sys2Proof.Machine
end

