-- ==== Sys2Proof/Tests/Slice0.lean ====
section
/-! SUPPORT. The model's own tests: the WellFormed smoke, one decoding and one result per form, the components, and a witness for
the hypotheses of every statement. Expected values come from spec/95_test_vectors.md (L1, L2) and the examples of 40_primitives.md;
control vectors are written out bit by bit from 30_encoding.md R38 and R46. -/

open Sys2Proof Sys2Proof.Machine

namespace Sys2Proof.Tests

/-- A 32-bit core with a control vector and operands on its ports and, so that a result can only come from the step, no value on
`rd`. -/
def core32 (ctl : Ctl) (rs1 rs2 : Word32) : State :=
  { fn := ctlFn ctl, hl := ctlHl ctl, bs := ctlBs ctl, rnum := ctlRnum ctl, valid := false, data := .x32 ⟨rs1, rs2, none⟩ }

/-- A 64-bit core with a control vector and operands on its ports and, so that a result can only come from the step, no value on
`rd`. -/
def core64 (ctl : Ctl) (rs1 rs2 : Word64) : State :=
  { fn := ctlFn ctl, hl := ctlHl ctl, bs := ctlBs ctl, rnum := ctlRnum ctl, valid := false, data := .x64 ⟨rs1, rs2, none⟩ }

/-- The value on `rd` after one step, none where the step ends in a fault or a refusal. -/
def rdAfter (s : State) : Option Nat :=
  match step s with
  | .next t => t.rdValue
  | .fault _ => none
  | .refused _ => none

/-- What `decode` reads, as an option. -/
def formOf (x : XLen) (ctl : Ctl) : Option Instr :=
  match decode x ctl with
  | .ok i => some i
  | .error _ => none

/-! ### WellFormed: a form of the other XLEN is refused (R45, R46) -/

theorem test_wellFormed_refuses_32_on_64 : (Instr.es_32 1).wellFormed .x64 = false := by decide
theorem test_wellFormed_refuses_64_on_32 : Instr.im_64.wellFormed .x32 = false := by decide
theorem test_wellFormed_accepts : (Instr.es_32 1).wellFormed .x32 = true ∧ (Instr.ks1_64 15).wellFormed .x64 = true := by decide

/-! ### Decoding, one control vector per form, CTL = rnum @ bs @ hl @ fn (R38, R46) -/

theorem test_ds_64_decodes : formOf .x64 0b00000000000#11 = some .ds_64 := by decide
theorem test_dsm_64_decodes : formOf .x64 0b00000000001#11 = some .dsm_64 := by decide
theorem test_es_64_decodes : formOf .x64 0b00000000010#11 = some .es_64 := by decide
theorem test_esm_64_decodes : formOf .x64 0b00000000011#11 = some .esm_64 := by decide
theorem test_im_64_decodes : formOf .x64 0b00000000100#11 = some .im_64 := by decide
theorem test_ks1_64_decodes : formOf .x64 0b10010000101#11 = some (.ks1_64 9) := by decide
theorem test_ks2_64_decodes : formOf .x64 0b00000000110#11 = some .ks2_64 := by decide
theorem test_sha256sig0_64_decodes : formOf .x64 0b00000000111#11 = some .sha256sig0_64 := by decide
theorem test_sha256sig1_64_decodes : formOf .x64 0b00000001000#11 = some .sha256sig1_64 := by decide
theorem test_sha256sum0_64_decodes : formOf .x64 0b00000001001#11 = some .sha256sum0_64 := by decide
theorem test_sha256sum1_64_decodes : formOf .x64 0b00000001010#11 = some .sha256sum1_64 := by decide
theorem test_sha512sig0_64_decodes : formOf .x64 0b00000001011#11 = some .sha512sig0_64 := by decide
theorem test_sha512sig1_64_decodes : formOf .x64 0b00000001100#11 = some .sha512sig1_64 := by decide
theorem test_sha512sum0_64_decodes : formOf .x64 0b00000001101#11 = some .sha512sum0_64 := by decide
theorem test_sha512sum1_64_decodes : formOf .x64 0b00000001110#11 = some .sha512sum1_64 := by decide
theorem test_ds_32_decodes : formOf .x32 0b00001100000#11 = some (.ds_32 3) := by decide
theorem test_dsm_32_decodes : formOf .x32 0b00000100001#11 = some (.dsm_32 1) := by decide
theorem test_es_32_decodes : formOf .x32 0b00001000010#11 = some (.es_32 2) := by decide
theorem test_esm_32_decodes : formOf .x32 0b00000100011#11 = some (.esm_32 1) := by decide
theorem test_sha256sig0_32_decodes : formOf .x32 0b00000000111#11 = some .sha256sig0_32 := by decide
theorem test_sha256sig1_32_decodes : formOf .x32 0b00000001000#11 = some .sha256sig1_32 := by decide
theorem test_sha256sum0_32_decodes : formOf .x32 0b00000001001#11 = some .sha256sum0_32 := by decide
theorem test_sha256sum1_32_decodes : formOf .x32 0b00000001010#11 = some .sha256sum1_32 := by decide
theorem test_sha512sig0l_32_decodes : formOf .x32 0b00000001011#11 = some .sha512sig0l_32 := by decide
theorem test_sha512sig0h_32_decodes : formOf .x32 0b00000011011#11 = some .sha512sig0h_32 := by decide
theorem test_sha512sig1l_32_decodes : formOf .x32 0b00000001100#11 = some .sha512sig1l_32 := by decide
theorem test_sha512sig1h_32_decodes : formOf .x32 0b00000011100#11 = some .sha512sig1h_32 := by decide
theorem test_sha512sum0r_32_decodes : formOf .x32 0b00000001101#11 = some .sha512sum0r_32 := by decide
theorem test_sha512sum1r_32_decodes : formOf .x32 0b00000001110#11 = some .sha512sum1r_32 := by decide

/-! ### Results, one step per form (95_test_vectors.md L2.6 to L2.10) -/

theorem test_ds_64_result :
    rdAfter (core64 0b00000000000#11 0x7060504030201000 0xF0E0D0C0B0A09080) = some 0xFCA07C72D0476052 := by
  decide +kernel

theorem test_dsm_64_result :
    rdAfter (core64 0b00000000001#11 0xF0E0D0C0B0A09080 0x7060504030201000) = some 0xF1284D8507CC5688 := by
  decide +kernel

theorem test_es_64_result :
    rdAfter (core64 0b00001110010#11 0x7060504030201000 0xF0E0D0C0B0A09080) = some 0x04E160098CE05363 := by
  decide +kernel

theorem test_esm_64_result :
    rdAfter (core64 0b00000000011#11 0x7060504030201000 0xF0E0D0C0B0A09080) = some 0x92BCF5571564725F := by
  decide +kernel

theorem test_im_64_result :
    rdAfter (core64 0b00000000100#11 0x92BCF5571564725F 0x0000000000000000) = some 0x04E160098CE05363 := by
  decide +kernel

theorem test_ks1_64_result :
    rdAfter (core64 0b10010000101#11 0x0F0E0D0C0B0A0908 0x0000000000000000) = some 0xFE76ABE1FE76ABE1 := by
  decide +kernel

theorem test_ks2_64_result :
    rdAfter (core64 0b00000000110#11 0xFA72AFD2FD74AAD6 0x0F0E0D0C0B0A0908) = some 0xFE76ABD6F178A6DA := by
  decide +kernel

theorem test_sha256sig0_64_result :
    rdAfter (core64 0b00000000111#11 0x000000006A09E667 0x0000000000000000) = some 0xFFFFFFFFBA0CF582 := by
  decide +kernel

theorem test_sha256sig1_64_result :
    rdAfter (core64 0b00000001000#11 0xDEADBEEF00000001 0x0000000000000000) = some 0x000000000000A000 := by
  decide +kernel

theorem test_sha256sum0_64_result :
    rdAfter (core64 0b00000001001#11 0x000000006A09E667 0x0000000000000000) = some 0xFFFFFFFFCE20B47E := by
  decide +kernel

theorem test_sha256sum1_64_result :
    rdAfter (core64 0b00000001010#11 0x000000006A09E667 0x0000000000000000) = some 0x0000000055B65510 := by
  decide +kernel

theorem test_sha512sig0_64_result :
    rdAfter (core64 0b00000001011#11 0x6A09E667F3BCC908 0x0000000000000000) = some 0x3DBAE91951CAA1DF := by
  decide +kernel

theorem test_sha512sig1_64_result :
    rdAfter (core64 0b00000001100#11 0x6A09E667F3BCC908 0x0000000000000000) = some 0xC8C619E73EE44510 := by
  decide +kernel

theorem test_sha512sum0_64_result :
    rdAfter (core64 0b00000001101#11 0x6A09E667F3BCC908 0x0000000000000000) = some 0x08C4DB56AAC80C2A := by
  decide +kernel

theorem test_sha512sum1_64_result :
    rdAfter (core64 0b00000001110#11 0x6A09E667F3BCC908 0x0000000000000000) = some 0x259A6CC1643336EF := by
  decide +kernel

theorem test_ds_32_result :
    rdAfter (core32 0b00001100000#11 0x01234567 0x53C8A1FF) = some 0x51234567 := by
  decide +kernel

theorem test_dsm_32_result :
    rdAfter (core32 0b00000100001#11 0x01234567 0x53C8A1FF) = some 0xD01B9CA6 := by
  decide +kernel

theorem test_es_32_result :
    rdAfter (core32 0b00001000010#11 0x01234567 0x53C8A1FF) = some 0x01CB4567 := by
  decide +kernel

theorem test_esm_32_result :
    rdAfter (core32 0b11110110011#11 0x01234567 0x53C8A1FF) = some 0x33112131 := by
  decide +kernel

theorem test_sha256sig0_32_result :
    rdAfter (core32 0b00000000111#11 0x6A09E667 0x00000000) = some 0xBA0CF582 := by
  decide +kernel

theorem test_sha256sig1_32_result :
    rdAfter (core32 0b00000001000#11 0x6A09E667 0x00000000) = some 0xCFE5DA3C := by
  decide +kernel

theorem test_sha256sum0_32_result :
    rdAfter (core32 0b00000001001#11 0x6A09E667 0x00000000) = some 0xCE20B47E := by
  decide +kernel

theorem test_sha256sum1_32_result :
    rdAfter (core32 0b00000001010#11 0x6A09E667 0x00000000) = some 0x55B65510 := by
  decide +kernel

theorem test_sha512sig0l_32_result :
    rdAfter (core32 0b00000001011#11 0xF3BCC908 0x6A09E667) = some 0x51CAA1DF := by
  decide +kernel

theorem test_sha512sig0h_32_result :
    rdAfter (core32 0b00000011011#11 0x6A09E667 0xF3BCC908) = some 0x3DBAE919 := by
  decide +kernel

theorem test_sha512sig1l_32_result :
    rdAfter (core32 0b00000001100#11 0xF3BCC908 0x6A09E667) = some 0x3EE44510 := by
  decide +kernel

theorem test_sha512sig1h_32_result :
    rdAfter (core32 0b00000011100#11 0x6A09E667 0xF3BCC908) = some 0xC8C619E7 := by
  decide +kernel

theorem test_sha512sum0r_32_result :
    rdAfter (core32 0b00000011101#11 0xF3BCC908 0x6A09E667) = some 0xAAC80C2A := by
  decide +kernel

theorem test_sha512sum1r_32_result :
    rdAfter (core32 0b00000011110#11 0xF3BCC908 0x6A09E667) = some 0x643336EF := by
  decide +kernel

/-- KS1 with `rnum` = 10 does not rotate (95_test_vectors.md E8). -/
theorem test_ks1_64_rnum10_result :
    rdAfter (core64 0b10100000101#11 0x0F0E0D0C0B0A0908 0) = some 0x76ABD7FE76ABD7FE := by
  decide +kernel

/-! ### Requests the core does not define (95_test_vectors.md L2.11; R107, R108, R110) -/

theorem test_fn15_raises_at_64 : step (core64 0b11111111111#11 1 2) = .fault (.invalidOperation 15) := rfl
theorem test_fn15_raises_at_32 : step (core32 0b00000001111#11 1 2) = .fault (.invalidOperation 15) := rfl
theorem test_im_raises_at_32 : step (core32 0b00000000100#11 1 2) = .fault (.invalidOperation 4) := rfl
theorem test_ks1_raises_at_32 : step (core32 0b00000000101#11 1 2) = .fault (.invalidOperation 5) := rfl
theorem test_ks2_raises_at_32 : step (core32 0b00000000110#11 1 2) = .fault (.invalidOperation 6) := rfl
theorem test_word_above_ctl_is_rejected : decodeWord .x64 0x802 = .error (.notControlVector 0x802) := rfl
theorem test_word_of_ctl_is_read : decodeWord .x64 0x7F2 = .ok .es_64 := rfl
theorem test_decodeTableWord_reads_ctl : decodeTableWord 16 0x785 = some (.ks1_64 15) := by decide
theorem test_fetch_word_runs : rdAfter (State.reset.withFetchWord 16 0x002) = some 0x6363636363636363 := by decide +kernel

/-! ### Reset (R122) -/

theorem test_reset_ports : State.reset.ctl = 0 ∧ State.reset.valid = false ∧ State.reset.xlen = .x64 := by decide
theorem test_reset_rd : State.reset.rdValue = some 0x5252525252525252 ∧ rdAfter State.reset = some 0x5252525252525252 := by
  decide +kernel
theorem test_construct32_rd : (State.construct .x32).rdValue = some 0x52 ∧ rdAfter (State.construct .x32) = some 0x52 := by
  decide +kernel

/-! ### `rd` follows the inputs as they are driven (R26, R122) -/

/-- The request is driven and no step taken: `rd` is already what R102 gives (95_test_vectors.md L2.7). -/
theorem test_rd_follows_control : (State.reset.withFetchWord 16 0x002).rdValue = some 0x6363636363636363 := by decide +kernel
theorem test_rd_follows_operands :
    ((State.construct .x32).withOperands 0x01234567 0x53C8A1FF).rdValue = some 0x0123451A := by decide +kernel
theorem test_rd_has_no_value_where_r102_raises : (State.reset.withFetchWord 16 0x00F).rdValue = none := by decide +kernel

/-! ### Construction (R105, R106) -/

theorem test_width_48_refused : XLen.construct 48 = .error (.xlen 48) := rfl
theorem test_constant_16_refused : GfConst.construct 16 = .error (.gfConstant 16) := rfl

/-! ### Components (95_test_vectors.md L2.1 to L2.5; examples of 40_primitives.md) -/

theorem test_leftRotate : barrelShift 0 #v[1, 2, 3, 4] 5 .leftRotate = #v[4, 1, 2, 3] := by decide
theorem test_rightRotate : barrelShift 0 #v[1, 2, 3, 4] 1 .rightRotate = #v[2, 3, 4, 1] := by decide
theorem test_leftShift : barrelShift 0 #v[1, 2, 3, 4] 2 .leftShift = #v[0, 0, 1, 2] := by decide
theorem test_rightShift : barrelShift 0 #v[1, 2, 3, 4] 2 .rightShift = #v[3, 4, 0, 0] := by decide
theorem test_leftRotate_bytes :
    word4 (barrelShift 0 (bytesOf4 0x44332211) 1 .leftRotate) = 0x33221144 ∧ rotl 0x44332211#32 8 = 0x33221144 := by
  decide +kernel
theorem test_xt : xt 0x57 = 0xAE ∧ xt 0xAE = 0x47 ∧ xt 0x80 = 0x1B := by decide
theorem test_multiply :
    multiply 0x57 .c2 = 0xAE ∧ multiply 0x57 .c3 = 0xF9 ∧ multiply 0x57 .c9 = 0xD9 ∧
    multiply 0x57 .cB = 0x77 ∧ multiply 0x57 .cD = 0x9E ∧ multiply 0x57 .cE = 0x67 := by
  decide
theorem test_sbox :
    substitute 0x00 true = 0x63 ∧ substitute 0x53 true = 0xED ∧ substitute 0xED false = 0x53 ∧
    substitute 0xFF false = 0x7D := by
  decide
theorem test_mixColumn8 : mixColumn8 0x57 true = 0xF95757AE ∧ mixColumn8 0x57 false = 0x779ED967 := by decide +kernel
theorem test_mixColumn32 : mixColumn32 0x305DBFD4 true = 0xE5816604 ∧ mixColumn32 0xE5816604 false = 0x305DBFD4 := by
  decide +kernel
theorem test_mixColumn64 : mixColumn64 0x12345678305DBFD4 true = 0xCE709A2CE5816604 := by decide +kernel
theorem test_shiftRows :
    shiftRows 0x0706050403020100 0x0F0E0D0C0B0A0908 true = 0x030E09040F0A0500 ∧
    shiftRows 0x0F0E0D0C0B0A0908 0x0706050403020100 false = 0x0306090C0F020508 := by
  decide +kernel

/-! ### Witnesses: concrete inputs that meet the hypotheses of the statements

Statements without a hypothesis (a bare "for every") have no witness here. -/

/-- StepRunsDecodedForm, DecodedVectorIsTheEncoding, and the first clause of DecodeIsTheOpcodeMap, at both XLENs. -/
theorem witness_decodes :
    decode (core32 0x79B 0 0).xlen (core32 0x79B 0 0).ctl = .ok .sha512sig0h_32 ∧
    decode (core64 0x785 0 0).xlen (core64 0x785 0 0).ctl = .ok (.ks1_64 15) := ⟨rfl, rfl⟩

/-- The second clause of DecodeIsTheOpcodeMap, at both XLENs. -/
theorem witness_decode_error : decode .x32 0x006 = .error ⟨6⟩ ∧ decode .x64 0x7FF = .error ⟨15⟩ := ⟨rfl, rfl⟩

/-- FetchWordIsNextRequest: a word of a core of either XLEN, with every unread field set and nothing above `nbits`, and a word that
`nbits` cuts. -/
theorem witness_FetchWordIsNextRequest :
    decodeWord State.reset.xlen (0x7FE % 2 ^ 16) = .ok .sha512sum1_64 ∧
    decodeWord (core32 0 5 6).xlen (0x7FE % 2 ^ 16) = .ok .sha512sum1r_32 ∧
    decodeWord (core32 0 5 6).xlen (0x1060 % 2 ^ 8) = .ok (.ds_32 3) ∧
    decodeTableWord 16 0x7FE = some .sha512sum1_64 := ⟨rfl, rfl, rfl, by decide⟩

/-- DecodeOfEncodeIsTheForm: an operand at its largest value and at 0. -/
theorem witness_DecodeOfEncodeIsTheForm :
    (Instr.ks1_64 15).wellFormed .x64 = true ∧ (Instr.ks1_64 0).wellFormed .x64 = true ∧
    (Instr.esm_32 3).wellFormed .x32 = true ∧ (Instr.esm_32 0).wellFormed .x32 = true := by decide

/-- InvalidOperationExactly: both sides hold at `fn` = 15 and at both ends of 4..6 at XLEN = 32; neither does at `fn` = 3 and 7
there, nor at `fn` = 4 at XLEN = 64. -/
theorem witness_InvalidOperationExactly :
    step (core64 0x00F 0 0) = .fault (.invalidOperation 15) ∧ step (core32 0x004 0 0) = .fault (.invalidOperation 4) ∧
    step (core32 0x006 0 0) = .fault (.invalidOperation 6) ∧
    (rdAfter (core32 0x003 0 0)).isSome = true ∧ (rdAfter (core32 0x007 0 0)).isSome = true ∧
    (rdAfter (core64 0x004 0 0)).isSome = true := ⟨rfl, rfl, rfl, rfl, rfl, rfl⟩

/-- LegalRequestCompletes: legal requests at both XLENs, and illegal ones that the hypothesis shuts out. -/
theorem witness_LegalRequestCompletes :
    (core64 0x00E 1 2).legal = true ∧ (core64 0x004 1 2).legal = true ∧ (core32 0x003 1 2).legal = true ∧
    (core64 0x00F 1 2).legal = false ∧ (core32 0x005 1 2).legal = false := by decide

/-- EveryFormDrivesRdAlone: a form on a core of its XLEN, for both disjuncts. -/
theorem witness_EveryFormDrivesRdAlone :
    (Instr.es_32 0).wellFormed (core32 0 0 0).xlen = true ∧ Instr.es_64.wellFormed (core64 0 0 0).xlen = true := by decide

/-- OtherXlenRefusedAndUnreachable: a form on a core of the other XLEN, both ways. -/
theorem witness_OtherXlenRefusedAndUnreachable :
    (Instr.es_32 0).xlen ≠ (core64 0 0 0).xlen ∧ Instr.es_64.xlen ≠ (core32 0 0 0).xlen := by decide

/-- StepLeavesRdCurrent: a step from a state whose `rd` is not current, and one from a state whose `rd` is. -/
theorem witness_StepLeavesRdCurrent :
    step (core32 0x007 1 0) = .next { core32 0x007 1 0 with data := .x32 ⟨1, 0, some 0x02004000⟩ } ∧
    ¬ (core32 0x007 1 0).rdCurrent ∧ (State.construct .x32).rdCurrent ∧
    (rdAfter (State.construct .x32)).isSome = true := by
  exact ⟨rfl, by decide +kernel, by decide +kernel, rfl⟩

/-- RdFollowsTheInputsAtAllTimes, the last two clauses, and EvaluatingACurrentCoreChangesNothing: cores of both XLENs whose `rd` is
current, legal requests and ones that R102 raises on, whose `rd` has no value. -/
theorem witness_rdCurrent :
    (State.construct .x32).rdCurrent ∧ State.reset.rdCurrent ∧ (State.construct .x32).legal = true ∧ State.reset.legal = true ∧
    (core32 0x004 1 2).rdCurrent ∧ (core32 0x004 1 2).legal = false ∧
    (core64 0x00F 1 2).rdCurrent ∧ (core64 0x00F 1 2).legal = false := by
  decide +kernel

/-- ValidDoesNotGate, the second clause: a core whose `rd` is current. -/
theorem witness_ValidDoesNotGate : State.reset.rdCurrent ∧ (State.reset.withValid true).valid = true := by decide +kernel

/-- UnreadPortsHaveNoInfluence: ES.64 on cores that differ in `hl`, `bs`, `rnum`, `valid` and `rd`, and IM.64 on cores that also
differ in `rs2`. -/
theorem witness_UnreadPortsHaveNoInfluence :
    let s := core64 0x002 5 6
    let s' : State := { core64 0x7F2 5 6 with valid := true, data := .x64 ⟨5, 6, some 9⟩ }
    s.xlen = s'.xlen ∧ decode s.xlen s.ctl = .ok .es_64 ∧ (∀ q ∈ portsRead .es_64, s.port q = s'.port q) ∧
      (rdAfter s).isSome = true ∧
    (∀ q ∈ portsRead .im_64, (core64 0x004 5 6).port q = (core64 0x7F4 5 7).port q) := by
  exact ⟨rfl, rfl, by decide, rfl, by decide⟩

/-- OutcomeDependsOnInputsOnly: two states with one set of inputs and different `rd`, and one whose `rd` is current. -/
theorem witness_OutcomeDependsOnInputsOnly :
    State.sameInputs (core64 2 5 6) { core64 2 5 6 with data := .x64 ⟨5, 6, some 9⟩ } ∧
    core64 2 5 6 ≠ { core64 2 5 6 with data := .x64 ⟨5, 6, some 9⟩ } ∧
    State.sameInputs State.reset State.reset ∧ State.reset.rdCurrent := by
  exact ⟨⟨rfl, fun q => by cases q <;> rfl⟩, by decide, ⟨rfl, fun _ => rfl⟩, by decide +kernel⟩

/-- OnlyWidths32And64AreBuilt: the two widths that are built, and their neighbours that are not. -/
theorem witness_OnlyWidths32And64AreBuilt :
    XLen.construct 32 = .ok .x32 ∧ XLen.construct 64 = .ok .x64 ∧
    XLen.construct 31 = .error (.xlen 31) ∧ XLen.construct 65 = .error (.xlen 65) := ⟨rfl, rfl, rfl, rfl⟩

/-- OnlyMultiplierConstants1To15AreBuilt: both ends of the range, and their neighbours outside it. -/
theorem witness_OnlyMultiplierConstants1To15AreBuilt :
    GfConst.construct 1 = .ok ⟨1, by decide⟩ ∧ GfConst.construct 15 = .ok ⟨15, by decide⟩ ∧
    GfConst.construct 0 = .error (.gfConstant 0) ∧ GfConst.construct 16 = .error (.gfConstant 16) := ⟨rfl, rfl, rfl, rfl⟩

/-- RotationAndByteNumbering: bits 0 and 31 of a rotation right by 7, a rotation by the full width, and the ends of the byte
numbering: byte 0 is the least significant, byte 3 (or 7) the most. -/
theorem witness_RotationAndByteNumbering :
    (rotr 0x00000080#32 7).getLsbD 0 = true ∧ (rotr 0x00000040#32 7).getLsbD 31 = true ∧
    rotr 0x12345678#32 32 = 0x12345678 ∧
    byteOf 0 0x12345678#32 = 0x78 ∧ byteOf 3 0x12345678#32 = 0x12 ∧
    word4 #v[0x78, 0x56, 0x34, 0x12] = 0x12345678 ∧ word8 #v[0x80, 0, 0, 0, 0, 0, 0, 1] = 0x0100000000000080 := by
  decide +kernel

/-- BarrelShiftProperties, item 5: the ends of its range of byte counts. -/
theorem witness_BarrelShiftProperties :
    word4 (barrelShift 0 (bytesOf4 0x000000ED) 0 .leftRotate) = 0x000000ED ∧
    word4 (barrelShift 0 (bytesOf4 0x000000ED) 1 .leftRotate) = 0x0000ED00 ∧
    word4 (barrelShift 0 (bytesOf4 0x000000ED) 3 .rightRotate) = 0x0000ED00 := by decide +kernel

/-- ShiftModesMoveAndFillWithZero: an element that moves, the positions filled from either end, and an amount of the full length. -/
theorem witness_ShiftModesMoveAndFillWithZero :
    (1 + 2 < 4 ∧ (barrelShift 0 #v[1, 2, 3, 4] 1 .leftShift)[1 + 2] = 3) ∧
    (0 < 1 ∧ (barrelShift 0 #v[1, 2, 3, 4] 1 .leftShift)[0] = 0) ∧
    (4 ≤ 1 + 3 ∧ (barrelShift 0 #v[1, 2, 3, 4] 1 .rightShift)[3] = 0) ∧
    barrelShift 0 #v[1, 2, 3, 4] 4 .leftShift = #v[0, 0, 0, 0] ∧
    barrelShift 0 #v[1, 2, 3, 4] 7 .rightShift = #v[0, 0, 0, 0] := by decide

/-- SboxIsAffineOfFieldInverse: a byte that is 0 and one that is not, with their inverses. -/
theorem witness_SboxIsAffineOfFieldInverse :
    substitute 0 true = Reference.affine 0 ∧ (0x53 : Byte) ≠ 0 ∧ Reference.gfMul 0x53 0xCA = 1 ∧
    substitute 0x53 true = Reference.affine 0xCA := by decide +kernel

/-- MixColumn32IsTheAesMatrix and ShiftRowsDualIsAesShiftRows: the first and the last row and column. -/
theorem witness_rows_and_columns :
    byteOf 0 (mixColumn32 0x305DBFD4 true) = 0x04 ∧ byteOf 3 (mixColumn32 0x305DBFD4 true) = 0xE5 ∧
    Reference.shifted true 0x0706050403020100 0x0F0E0D0C0B0A0908 3 3 = 0x0B ∧
    Reference.shifted false 0x0706050403020100 0x0F0E0D0C0B0A0908 3 0 = 0x07 := by decide +kernel

/-- Every result statement of a 32-bit form, the 32-bit half of StepIsEvaluate and of the SHA-256 statements: a core whose data
ports are 32 bits wide. -/
theorem witness_data_x32 :
    (core32 0x060 0xFFFFFFFF 1).data = .x32 ⟨0xFFFFFFFF, 1, none⟩ ∧ (core32 0x062 7 0).data = .x32 ⟨7, 0, none⟩ := ⟨rfl, rfl⟩

/-- The clauses of the 32-bit result statements at `rs2` = 0 (Ds32Result, Es32Result, Dsm32Result, the two statements of SHA512SIG1
and SHA512SIG0), at a zero input and at an all-ones input (the SHA-256 statements). -/
theorem witness_corner_clauses_x32 :
    rdAfter (core32 0x060 0 0) = some 0x52000000 ∧ rdAfter (core32 0x062 0 0) = some 0x63000000 ∧
    rdAfter (core32 0x001 0 0) = some 0x50A7F451 ∧
    rdAfter (core32 0x00C 1 0) = some 0x00000008 ∧ rdAfter (core32 0x01C 1 0) = some 0x00000008 ∧
    rdAfter (core32 0x007 0 5) = some 0 ∧ rdAfter (core32 0x009 0xFFFFFFFF 5) = some 0xFFFFFFFF := by
  decide +kernel

/-- Every result statement of a 64-bit form, the 64-bit half of StepIsEvaluate and of the SHA-256 statements: a core whose data
ports are 64 bits wide. -/
theorem witness_data_x64 :
    (core64 0x006 0x0123456789ABCDEF 0).data = .x64 ⟨0x0123456789ABCDEF, 0, none⟩ := rfl

/-- The clauses of the 64-bit result statements at `rs2` = 0 (Ks264Result), at zero operands (the AES statements), at a zero
input and at an all-ones input (the SHA-256 and SHA-512 statements). -/
theorem witness_corner_clauses_x64 :
    rdAfter (core64 0x006 0x0123456789ABCDEF 0) = some 0x0123456701234567 ∧
    rdAfter (core64 0x001 0 0) = some 0x5252525252525252 ∧ rdAfter (core64 0x003 0 0) = some 0x6363636363636363 ∧
    lo32 0xDEADBEEF00000000 = 0 ∧ rdAfter (core64 0x007 0xDEADBEEF00000000 5) = some 0 ∧
    rdAfter (core64 0x009 0x00000000FFFFFFFF 5) = some 0xFFFFFFFFFFFFFFFF ∧
    rdAfter (core64 0x00B 0 5) = some 0 ∧ rdAfter (core64 0x00D 0xFFFFFFFFFFFFFFFF 5) = some 0xFFFFFFFFFFFFFFFF := by
  decide +kernel

/-- KeyScheduleExpandsOneRound: a round index that rotates and the last one that the table defines a constant for; the first round
of program P1 (95_test_vectors.md L3). -/
theorem witness_KeyScheduleExpandsOneRound :
    (0 : BitVec 4) ≠ 10 ∧ (9 : BitVec 4) ≠ 10 ∧
    State.reset.run64 (.ks1_64 0) 0x0F0E0D0C0B0A0908 0 = some 0xFE76ABD6FE76ABD6 ∧
    State.reset.run64 .ks2_64 0xFE76ABD6FE76ABD6 0x0706050403020100 = some 0xFA72AFD2FD74AAD6 := by
  exact ⟨by decide, by decide, by decide +kernel, by decide +kernel⟩

/-- Sha512HalvesComposeTo64: the first pair of rows of 95_test_vectors.md L2.10 against L2.9. -/
theorem witness_Sha512HalvesComposeTo64 :
    State.reset.run32 .sha512sig0l_32 0xF3BCC908 0x6A09E667 = some 0x51CAA1DF ∧
    State.reset.run64 .sha512sig0_64 0x6A09E667F3BCC908 0 = some 0x3DBAE91951CAA1DF := by
  exact ⟨by decide +kernel, by decide +kernel⟩

/-- EncryptRoundAgreesAcrossWidths and DecryptRoundAgreesAcrossWidths: the first round of FIPS-197 C.1, both widths
(95_test_vectors.md L2.7), its low column from four evaluations of ES.32. -/
theorem witness_round_agrees :
    State.reset.foldColumn .es_32 0 0x30201000 0x70605040 0xB0A09080 0xF0E0D0C0 = some 0x8CE05363 ∧
    State.reset.run64 .es_64 0x7060504030201000 0xF0E0D0C0B0A09080 = some 0x04E160098CE05363 := by
  exact ⟨by decide +kernel, by decide +kernel⟩

end Sys2Proof.Tests
end

/-! PROOFS. The statements of 10_state.md: a form drives `rd` alone (R21), and a port that a form does not read has no
influence on `rd` (R19). -/

namespace Sys2Proof.Machine

/-! ### The frame of a form (R21) -/

/-- Settles O9: a form drives `rd` of a core of its own XLEN, and driving `rd` changes no other port. -/
theorem everyFormDrivesRdAlone : Obligations.EveryFormDrivesRdAlone := by
  intro i s hwf
  have hx : i.xlen = s.xlen := by simpa [Instr.wellFormed] using hwf
  obtain ⟨h32, f, hf⟩ | ⟨h64, f, hf⟩ := exec_cases i s
  · obtain ⟨p, hp⟩ := xlen_eq_x32.mp (hx.symm.trans h32)
    exact .inl ⟨p, _, hp, hf.trans (drive32_x32 hp f)⟩
  · obtain ⟨p, hp⟩ := xlen_eq_x64.mp (hx.symm.trans h64)
    exact .inr ⟨p, _, hp, hf.trans (drive64_x64 hp f)⟩

/-! ### The values on the operand ports -/

theorem port_rs1_x32 {s : State} {p : DataPorts 32} (h : s.data = .x32 p) : s.port .rs1 = p.rs1.toNat := by
  simp [State.port, h]
theorem port_rs2_x32 {s : State} {p : DataPorts 32} (h : s.data = .x32 p) : s.port .rs2 = p.rs2.toNat := by
  simp [State.port, h]
theorem port_rs1_x64 {s : State} {p : DataPorts 64} (h : s.data = .x64 p) : s.port .rs1 = p.rs1.toNat := by
  simp [State.port, h]
theorem port_rs2_x64 {s : State} {p : DataPorts 64} (h : s.data = .x64 p) : s.port .rs2 = p.rs2.toNat := by
  simp [State.port, h]

/-! ### What decoding reads of the control ports (R41, R46) -/

/-- Every form reads `fn`. -/
theorem fn_mem_portsRead (i : Instr) : .fn ∈ portsRead i := by cases i <;> exact List.mem_cons_self

/-- A vector that decodes to a form decodes to it still when the fields change that the form does not read. -/
theorem decode_congr_portsRead {x : XLen} {c c' : Ctl} {i : Instr} (h : decode x c = .ok i) (hfn : ctlFn c = ctlFn c')
    (hhl : .hl ∈ portsRead i → ctlHl c = ctlHl c') (hbs : .bs ∈ portsRead i → ctlBs c = ctlBs c')
    (hrnum : .rnum ∈ portsRead i → ctlRnum c = ctlRnum c') : decode x c' = .ok i := by
  cases x with
  | x64 =>
    simp only [decode, ← hfn] at h ⊢
    generalize (ctlFn c).toNat = k at h ⊢
    split at h
    -- KS1 takes `rnum`; the last arm rejects; no other arm reads a field beside `fn`
    case h_6 => exact hrnum (by cases h; simp [portsRead]) ▸ h
    case h_16 => cases h
    all_goals exact h
  | x32 =>
    simp only [decode, ← hfn] at h ⊢
    generalize (ctlFn c).toNat = k at h ⊢
    split at h
    -- the four AES forms take `bs`; SHA512SIG0 and SHA512SIG1 are chosen by `hl`; the last arm rejects
    case h_1 | h_2 | h_3 | h_4 => exact hbs (by cases h; simp [portsRead]) ▸ h
    case h_9 | h_10 => exact hhl (by split at h <;> cases h <;> simp [portsRead]) ▸ h
    case h_13 => cases h
    all_goals exact h

/-- Cores of one XLEN that agree on the ports of the form decoded from one of them decode to one form. -/
theorem decode_of_ports_agree {s s' : State} {i : Instr} (hx : s.xlen = s'.xlen) (h : decode s.xlen s.ctl = .ok i)
    (hq : ∀ q ∈ portsRead i, s.port q = s'.port q) : decode s'.xlen s'.ctl = .ok i := by
  rw [← hx]
  refine decode_congr_portsRead h ?_ (fun hm => ?_) (fun hm => ?_) (fun hm => ?_)
  · simpa using BitVec.eq_of_toNat_eq (hq .fn (fn_mem_portsRead i))
  · simpa using (Bool.injective_iff (f := Bool.toNat)).mpr Nat.zero_ne_one (hq .hl hm)
  · simpa using BitVec.eq_of_toNat_eq (hq .bs hm)
  · simpa using BitVec.eq_of_toNat_eq (hq .rnum hm)

/-! ### What a form reads of the operand ports (R19) -/

/-- A function of the two operands whose value depends only on those operands whose ports are listed. -/
def ReadsWithin (ports : List Port) {w : Nat} (f : BitVec w → BitVec w → BitVec w) : Prop :=
  ∀ a b a' b', (.rs1 ∈ ports → a = a') → (.rs2 ∈ ports → b = b') → f a b = f a' b'

theorem readsWithin_of_both {ports : List Port} {w : Nat} (f : BitVec w → BitVec w → BitVec w) (h1 : .rs1 ∈ ports)
    (h2 : .rs2 ∈ ports) : ReadsWithin ports f := fun _ _ _ _ ha hb => by rw [ha h1, hb h2]

theorem readsWithin_of_rs1 {ports : List Port} {w : Nat} (f : BitVec w → BitVec w → BitVec w) (h1 : .rs1 ∈ ports)
    (hf : ∀ a b b', f a b = f a b') : ReadsWithin ports f := fun a b a' b' ha _ => by rw [ha h1, hf a' b b']

/-- The SHA-256 functions, and the SHA-512 functions at XLEN = 64, are given no second operand (R84 to R92). -/
theorem readsWithin_unary {ports : List Port} {w : Nat} (g : BitVec w → BitVec w) (h1 : .rs1 ∈ ports) :
    ReadsWithin ports fun a _ => g a := readsWithin_of_rs1 _ h1 fun _ _ _ => rfl

/-- No AES code but KS1 reads `rnum` (R76 to R82). -/
theorem aes64_rnum_unread {op : AesOp} (h : op ≠ .ks1) (r r' : BitVec 4) : aes64 op r = aes64 op r' := by
  funext a b
  cases op with
  | round op => rw [aes64_round, aes64_round]
  | im => rw [aes64_im, aes64_im]
  | ks1 => exact absurd rfl h
  | ks2 => rw [aes64_ks2, aes64_ks2]

/-- IM reads no second operand (R80). -/
theorem aes64_im_rs2_unread (rnum : BitVec 4) (a b b' : Word64) : aes64 .im rnum a b = aes64 .im rnum a b' := by
  rw [aes64_im, aes64_im]

/-- KS1 reads no second operand (R81). -/
theorem aes64_ks1_rs2_unread (rnum : BitVec 4) (a b b' : Word64) : aes64 .ks1 rnum a b = aes64 .ks1 rnum a b' := by
  rw [aes64_ks1, aes64_ks1]

/-- A form drives `rd` with one function of the operands, whatever the state, and that function reads no operand but those the
form lists: an AES code that is wired to `rnum` and does not list it ignores it. -/
theorem exec_reads_ports (i : Instr) :
    (∃ f, ReadsWithin (portsRead i) f ∧ ∀ s, exec i s = s.drive32 f) ∨
    (∃ f, ReadsWithin (portsRead i) f ∧ ∀ s, exec i s = s.drive64 f) := by
  cases i
  case ds_64 | dsm_64 | es_64 | esm_64 | ks2_64 =>
    exact .inr ⟨aes64 _ 0, readsWithin_of_both _ (by decide) (by decide),
      fun s => congrArg s.drive64 (aes64_rnum_unread (by decide) s.rnum 0)⟩
  case im_64 =>
    exact .inr ⟨aes64 .im 0, readsWithin_of_rs1 _ (by decide) (aes64_im_rs2_unread 0),
      fun s => congrArg s.drive64 (aes64_rnum_unread (by decide) s.rnum 0)⟩
  case ks1_64 rnum =>
    exact .inr ⟨aes64 .ks1 rnum, readsWithin_of_rs1 _ (by simp [portsRead]) (aes64_ks1_rs2_unread rnum),
      fun s => exec_ks1_64 s rnum⟩
  case sha256sig0_64 => exact .inr ⟨_, readsWithin_unary _ (by decide), exec_sha256sig0_64⟩
  case sha256sig1_64 => exact .inr ⟨_, readsWithin_unary _ (by decide), exec_sha256sig1_64⟩
  case sha256sum0_64 => exact .inr ⟨_, readsWithin_unary _ (by decide), exec_sha256sum0_64⟩
  case sha256sum1_64 => exact .inr ⟨_, readsWithin_unary _ (by decide), exec_sha256sum1_64⟩
  case sha512sig0_64 => exact .inr ⟨_, readsWithin_unary _ (by decide), exec_sha512sig0_64⟩
  case sha512sig1_64 => exact .inr ⟨_, readsWithin_unary _ (by decide), exec_sha512sig1_64⟩
  case sha512sum0_64 => exact .inr ⟨_, readsWithin_unary _ (by decide), exec_sha512sum0_64⟩
  case sha512sum1_64 => exact .inr ⟨_, readsWithin_unary _ (by decide), exec_sha512sum1_64⟩
  case sha256sig0_32 => exact .inl ⟨_, readsWithin_unary _ (by decide), exec_sha256sig0_32⟩
  case sha256sig1_32 => exact .inl ⟨_, readsWithin_unary _ (by decide), exec_sha256sig1_32⟩
  case sha256sum0_32 => exact .inl ⟨_, readsWithin_unary _ (by decide), exec_sha256sum0_32⟩
  case sha256sum1_32 => exact .inl ⟨_, readsWithin_unary _ (by decide), exec_sha256sum1_32⟩
  case ds_32 bs | dsm_32 bs | es_32 bs | esm_32 bs =>
    exact .inl ⟨_, readsWithin_of_both _ (by simp [portsRead]) (by simp [portsRead]), fun _ => rfl⟩
  case sha512sig0l_32 | sha512sig0h_32 | sha512sig1l_32 | sha512sig1h_32 | sha512sum0r_32 | sha512sum1r_32 =>
    exact .inl ⟨_, readsWithin_of_both _ (by decide) (by decide), fun _ => rfl⟩

/-! ### An unread port has no influence (R19) -/

theorem drive32_of_ports_agree {ports : List Port} {f : Word32 → Word32 → Word32} (hf : ReadsWithin ports f)
    {s s' t : State} (hx : s.xlen = s'.xlen) (hq : ∀ q ∈ ports, s.port q = s'.port q) (h : s.drive32 f = .next t) :
    ∃ t', s'.drive32 f = .next t' ∧ t'.rdValue = t.rdValue := by
  obtain ⟨p, hp, rfl⟩ := drive32_next.mp h
  obtain ⟨p', hp'⟩ := xlen_eq_x32.mp (hx.symm.trans (xlen_of_x32 hp))
  have hv : f p.rs1 p.rs2 = f p'.rs1 p'.rs2 := hf _ _ _ _
    (fun hm => BitVec.eq_of_toNat_eq (by rw [← port_rs1_x32 hp, ← port_rs1_x32 hp', hq _ hm]))
    (fun hm => BitVec.eq_of_toNat_eq (by rw [← port_rs2_x32 hp, ← port_rs2_x32 hp', hq _ hm]))
  exact ⟨_, drive32_x32 hp' f, by simp [State.rdValue, hv]⟩

theorem drive64_of_ports_agree {ports : List Port} {f : Word64 → Word64 → Word64} (hf : ReadsWithin ports f)
    {s s' t : State} (hx : s.xlen = s'.xlen) (hq : ∀ q ∈ ports, s.port q = s'.port q) (h : s.drive64 f = .next t) :
    ∃ t', s'.drive64 f = .next t' ∧ t'.rdValue = t.rdValue := by
  obtain ⟨p, hp, rfl⟩ := drive64_next.mp h
  obtain ⟨p', hp'⟩ := xlen_eq_x64.mp (hx.symm.trans (xlen_of_x64 hp))
  have hv : f p.rs1 p.rs2 = f p'.rs1 p'.rs2 := hf _ _ _ _
    (fun hm => BitVec.eq_of_toNat_eq (by rw [← port_rs1_x64 hp, ← port_rs1_x64 hp', hq _ hm]))
    (fun hm => BitVec.eq_of_toNat_eq (by rw [← port_rs2_x64 hp, ← port_rs2_x64 hp', hq _ hm]))
  exact ⟨_, drive64_x64 hp' f, by simp [State.rdValue, hv]⟩

/-- A step runs the form decoded. -/
theorem step_of_decode {s : State} {i : Instr} (h : decode s.xlen s.ctl = .ok i) : step s = exec i s := by
  simp [step, h]

/-- Settles O15: the second core decodes the same form, and the form drives `rd` of both with one function that reads its ports
alone. -/
theorem unreadPortsHaveNoInfluence : Obligations.UnreadPortsHaveNoInfluence := by
  intro s s' t i hx hd hq hs
  rw [step_of_decode hd] at hs
  rw [step_of_decode (decode_of_ports_agree hx hd hq)]
  obtain ⟨f, hf, he⟩ | ⟨f, hf, he⟩ := exec_reads_ports i
  · rw [he] at hs ⊢
    exact drive32_of_ports_agree hf hx hq hs
  · rw [he] at hs ⊢
    exact drive64_of_ports_agree hf hx hq hs

end Sys2Proof.Machine

/-! PROOFS. The statement of 20_memory.md: nothing is kept from one evaluation to the next, so a result depends on the inputs
and the XLEN alone (R34). What an evaluation gives is what it gives of the settled state, and states with the same inputs settle
alike. -/

namespace Sys2Proof.Machine

/-! ### States with the same inputs settle alike -/

/-- States with the same inputs differ at most on the data ports. -/
theorem eq_with_data_of_sameInputs {s s' : State} (h : s.sameInputs s') : s' = { s with data := s'.data } := by
  obtain ⟨-, hq⟩ := h
  have toNat_injective : Function.Injective Bool.toNat := Bool.injective_iff.mpr Nat.zero_ne_one
  have hfn : s.fn = s'.fn := BitVec.eq_of_toNat_eq (hq .fn)
  have hhl : s.hl = s'.hl := toNat_injective (hq .hl)
  have hbs : s.bs = s'.bs := BitVec.eq_of_toNat_eq (hq .bs)
  have hrnum : s.rnum = s'.rnum := BitVec.eq_of_toNat_eq (hq .rnum)
  have hvalid : s.valid = s'.valid := toNat_injective (hq .valid)
  rw [hfn, hhl, hbs, hrnum, hvalid]

/-- On 32-bit cores the same inputs leave only `rd` to differ. -/
theorem eq_with_rd_of_sameInputs_x32 {s s' : State} {p : DataPorts 32} (hp : s.data = .x32 p) (h : s.sameInputs s') :
    ∃ r, s' = { s with data := .x32 { p with rd := r } } := by
  have heq := eq_with_data_of_sameInputs h
  obtain ⟨hx, hq⟩ := h
  obtain ⟨p', hp'⟩ := xlen_eq_x32.mp (hx.symm.trans (xlen_of_x32 hp))
  have h1 : p.rs1 = p'.rs1 := BitVec.eq_of_toNat_eq (by rw [← port_rs1_x32 hp, ← port_rs1_x32 hp', hq])
  have h2 : p.rs2 = p'.rs2 := BitVec.eq_of_toNat_eq (by rw [← port_rs2_x32 hp, ← port_rs2_x32 hp', hq])
  exact ⟨p'.rd, by rw [h1, h2, heq, hp']⟩

/-- On 64-bit cores the same inputs leave only `rd` to differ. -/
theorem eq_with_rd_of_sameInputs_x64 {s s' : State} {p : DataPorts 64} (hp : s.data = .x64 p) (h : s.sameInputs s') :
    ∃ r, s' = { s with data := .x64 { p with rd := r } } := by
  have heq := eq_with_data_of_sameInputs h
  obtain ⟨hx, hq⟩ := h
  obtain ⟨p', hp'⟩ := xlen_eq_x64.mp (hx.symm.trans (xlen_of_x64 hp))
  have h1 : p.rs1 = p'.rs1 := BitVec.eq_of_toNat_eq (by rw [← port_rs1_x64 hp, ← port_rs1_x64 hp', hq])
  have h2 : p.rs2 = p'.rs2 := BitVec.eq_of_toNat_eq (by rw [← port_rs2_x64 hp, ← port_rs2_x64 hp', hq])
  exact ⟨p'.rd, by rw [h1, h2, heq, hp']⟩

/-- What stood on `rd` has no part in the settled state. -/
theorem settle_eq_of_sameInputs {s s' : State} (h : s.sameInputs s') : s.settle = s'.settle := by
  cases hd : s.data with
  | x32 p =>
    obtain ⟨r, rfl⟩ := eq_with_rd_of_sameInputs_x32 hd h
    rw [settle_x32 hd]; rfl
  | x64 p =>
    obtain ⟨r, rfl⟩ := eq_with_rd_of_sameInputs_x64 hd h
    rw [settle_x64 hd]; rfl

/-! ### An evaluation overwrites `rd` without reading it -/

@[simp] theorem drive32_settle (s : State) (f : Word32 → Word32 → Word32) : s.settle.drive32 f = s.drive32 f := by
  cases hd : s.data with
  | x32 p => rw [settle_x32 hd, drive32_x32 hd f]; rfl
  | x64 p => rw [settle_x64 hd, drive32_x64 hd f]; rfl

@[simp] theorem drive64_settle (s : State) (f : Word64 → Word64 → Word64) : s.settle.drive64 f = s.drive64 f := by
  cases hd : s.data with
  | x32 p => rw [settle_x32 hd, drive64_x32 hd f]; rfl
  | x64 p => rw [settle_x64 hd, drive64_x64 hd f]; rfl

@[simp] theorem exec_settle (i : Instr) (s : State) : exec i s.settle = exec i s := by
  obtain ⟨f, -, he⟩ | ⟨f, -, he⟩ := exec_reads_ports i
  · rw [he, he, drive32_settle]
  · rw [he, he, drive64_settle]

/-- A step answers the same whether `rd` was current before it or not. -/
@[simp] theorem step_settle (s : State) : step s.settle = step s := by
  simp only [step, settle_xlen, settle_ctl, exec_settle]

/-- Settles O17: both states settle to one, which steps as each of them does and which a state with `rd` current is. -/
theorem outcomeDependsOnInputsOnly : Obligations.OutcomeDependsOnInputsOnly := by
  intro s s' h
  have hs : s.settle = s'.settle := settle_eq_of_sameInputs h
  refine ⟨?_, hs, fun hc hc' => ?_⟩
  · calc step s = step s.settle := (step_settle s).symm
      _ = step s'.settle := by rw [hs]
      _ = step s' := step_settle s'
  · calc s = s.settle := hc.symm
      _ = s'.settle := hs
      _ = s' := hc'

end Sys2Proof.Machine

/-! PROOFS. The statement of 30_encoding.md that the decoder is the opcode map (R46): a row is selected by the number on `fn`, with
`hl` beside it where the row reads it, and these are what the decoder branches on. -/

namespace Sys2Proof.Machine

/-! ### What selects a row (R38, R46) -/

/-- The mask 0x00F keeps `fn`. -/
@[simp] theorem selects_of_fn_mask (v : Ctl) (f : Ctl → Instr) (ctl : Ctl) :
    (OpcodeRow.mk v 15#11 f).selects ctl = decide ((ctlFn ctl).toNat = v.toNat) := by
  have hmask : (ctl &&& 15#11).toNat = (ctlFn ctl).toNat := by
    simpa [ctlFn] using Nat.and_two_pow_sub_one_eq_mod ctl.toNat 4
  rw [Bool.eq_iff_iff]
  simp only [OpcodeRow.selects, beq_iff_eq, decide_eq_true_eq, ← BitVec.toNat_inj, hmask]

/-- The mask 0x01F keeps `fn` and, above it, `hl`. -/
@[simp] theorem selects_of_fn_hl_mask (v : Ctl) (f : Ctl → Instr) (ctl : Ctl) :
    (OpcodeRow.mk v 31#11 f).selects ctl =
      decide ((ctlFn ctl).toNat = v.toNat % 16 ∧ (ctlHl ctl).toNat = v.toNat / 16) := by
  have hmask : (ctl &&& 31#11).toNat = ctl.toNat % 32 := by
    simpa using Nat.and_two_pow_sub_one_eq_mod ctl.toNat 5
  have hfn : (ctlFn ctl).toNat = ctl.toNat % 16 := by simp [ctlFn]
  have hhl : (ctlHl ctl).toNat = ctl.toNat / 16 % 2 := by simp [ctlHl, BitVec.getLsbD, Nat.toNat_testBit]
  rw [Bool.eq_iff_iff]
  simp only [OpcodeRow.selects, beq_iff_eq, decide_eq_true_eq, ← BitVec.toNat_inj, hmask, hfn, hhl]
  omega

/-! ### The decoder and the rows selected -/

/-- A vector that is rejected carries its `fn`, and that is the number of no row. -/
theorem no_row_of_decode_error {x : XLen} {ctl : Ctl} {e : InvalidOperation} (h : decode x ctl = .error e) :
    (opcodeMap x).filter (fun r => r.selects ctl) = [] ∧ e.fn = ctlFn ctl := by
  cases x with
  | x64 =>
    simp only [decode] at h
    split at h
    -- the last arm alone rejects
    case h_16 =>
      cases h
      exact ⟨by simp_all [opcodeMap], rfl⟩
    all_goals cases h
  | x32 =>
    simp only [decode] at h
    split at h
    case h_13 =>
      cases h
      exact ⟨by simp_all [opcodeMap], rfl⟩
    all_goals cases h

/-- The number that a vector decodes by selects one row, and the row's form is the one decoded. -/
theorem one_row_of_decode_ok {x : XLen} {ctl : Ctl} {i : Instr} (h : decode x ctl = .ok i) :
    ((opcodeMap x).filter (fun r => r.selects ctl)).map (fun r => r.form ctl) = [i] := by
  cases x with
  | x64 =>
    simp only [decode] at h
    split at h
    case h_16 => cases h
    all_goals
      cases h
      simp [opcodeMap, *]
  | x32 =>
    simp only [decode] at h
    split at h
    case h_13 => cases h
    -- `hl` chooses between the two rows of SHA512SIG0, and of SHA512SIG1
    case h_9 | h_10 =>
      cases h
      cases hhl : ctlHl ctl <;> simp [opcodeMap, *]
    all_goals
      cases h
      simp [opcodeMap, *]

/-- Settles O6: a form decoded is that of the one row selected, and a rejection means that none is. -/
theorem decodeIsTheOpcodeMap : Obligations.DecodeIsTheOpcodeMap :=
  fun _ _ => ⟨fun _ h => one_row_of_decode_ok h, fun _ h => no_row_of_decode_error h⟩

end Sys2Proof.Machine

/-! PROOFS. The statements of 40_primitives.md: the multiplier against the field product (R56), and ShiftRowsDual as a
multiplication of byte numbers modulo 16 (R68). -/

/-! ### The product in GF(2^8) (R55, R56) -/

namespace Sys2Proof.Reference

open Sys2Proof.Machine

/-- One round of the division by 0x11B: clear the coefficient of degree `8 + k`. -/
def reduceAt (p : BitVec 16) (k : Nat) : BitVec 16 := if p.getLsbD (8 + k) then p ^^^ (0x11B#16 <<< k) else p

theorem polyMod_eq_foldl_reduceAt (p : BitVec 16) :
    polyMod p = byteOf 0 ([7, 6, 5, 4, 3, 2, 1, 0].foldl reduceAt p) := rfl

theorem reduceAt_eq_self {p : BitVec 16} {k : Nat} (h : p.getLsbD (8 + k) = false) : reduceAt p k = p := by
  simp [reduceAt, h]

/-- A gated XOR is the XOR with the gated operand. -/
theorem ite_xor_self {w : Nat} (c : Bool) (a b : BitVec w) : (if c then a ^^^ b else a) = a ^^^ (if c then b else 0) := by
  cases c <;> simp

/-- A gate by the XOR of two bits is the XOR of the two gates. -/
theorem ite_bne {w : Nat} (c d : Bool) (a : BitVec w) :
    (if c ^^ d then a else 0) = (if c then a else 0) ^^^ (if d then a else 0) := by
  cases c <;> cases d <;> simp

theorem reduceAt_xor (p q : BitVec 16) (k : Nat) : reduceAt (p ^^^ q) k = reduceAt p k ^^^ reduceAt q k := by
  simp only [reduceAt, ite_xor_self, BitVec.getLsbD_xor, ite_bne]
  ac_rfl

theorem foldl_reduceAt_xor (ks : List Nat) (p q : BitVec 16) :
    ks.foldl reduceAt (p ^^^ q) = ks.foldl reduceAt p ^^^ ks.foldl reduceAt q := by
  induction ks generalizing p q with
  | nil => rfl
  | cons k ks ih => simp only [List.foldl_cons, reduceAt_xor, ih]

/-- The remainder of a sum is the sum of the remainders. -/
theorem polyMod_xor (p q : BitVec 16) : polyMod (p ^^^ q) = polyMod p ^^^ polyMod q := by
  simp only [polyMod_eq_foldl_reduceAt, foldl_reduceAt_xor, byteOf_xor]

/-- A polynomial of degree below 8 is its own remainder. -/
theorem polyMod_zeroExtend (v : Byte) : polyMod (v.zeroExtend 16) = v := by
  have hstep (k : Nat) : reduceAt (v.zeroExtend 16) k = v.zeroExtend 16 := reduceAt_eq_self (by simp)
  simp only [polyMod_eq_foldl_reduceAt, List.foldl_cons, List.foldl_nil, hstep]
  refine BitVec.eq_of_getLsbD_eq fun i hi => ?_
  rw [getLsbD_byteOf]
  simp [hi, show i < 16 by omega]

/-- A round at degree `9 + k` of `x p` is `x` times the round at degree `8 + k` of `p`. -/
theorem reduceAt_shiftLeft_one (p : BitVec 16) {k : Nat} (hk : k < 7) :
    reduceAt (p <<< 1) (k + 1) = reduceAt p k <<< 1 := by
  have hbit : (p <<< 1).getLsbD (8 + (k + 1)) = p.getLsbD (8 + k) := by
    simp [show 8 + (k + 1) < 16 by omega]; rfl
  have hshift : 0x11B#16 <<< (k + 1) = (0x11B#16 <<< k) <<< 1 := BitVec.shiftLeft_add ..
  simp only [reduceAt, hbit, hshift]
  split
  · rw [BitVec.shiftLeft_xor_distrib]
  · rfl

theorem foldl_reduceAt_shiftLeft_one (ks : List Nat) (hks : ∀ k ∈ ks, k < 7) (p : BitVec 16) :
    (ks.map (· + 1)).foldl reduceAt (p <<< 1) = ks.foldl reduceAt p <<< 1 := by
  induction ks generalizing p with
  | nil => rfl
  | cons k ks ih =>
    obtain ⟨hk, hks⟩ := List.forall_mem_cons.mp hks
    rw [List.map_cons, List.foldl_cons, reduceAt_shiftLeft_one p hk, ih hks, List.foldl_cons]

/-- The last round, at degree 8, is the one conditional XOR of a doubling. -/
theorem byteOf_reduceAt_zero_shiftLeft_one (p : BitVec 16) : byteOf 0 (reduceAt (p <<< 1) 0) = xt (byteOf 0 p) := by
  have hbyte : byteOf 0 (p <<< 1) = byteOf 0 p <<< 1 := by
    refine BitVec.eq_of_getLsbD_eq fun i hi => ?_
    rw [getLsbD_byteOf, BitVec.getLsbD_shiftLeft, BitVec.getLsbD_shiftLeft, getLsbD_byteOf, Nat.mul_zero,
      Nat.zero_add, Nat.zero_add]
    simp [hi, show i < 16 by omega, show i - 1 < 8 by omega]
  have hbit : (p <<< 1).getLsbD (8 + 0) = (byteOf 0 p).getLsbD 7 := by rw [getLsbD_byteOf]; simp
  have hpoly : byteOf 0 0x11B#16 = 0x1B := rfl
  unfold reduceAt xt
  rw [hbit, ← hbyte]
  cases (byteOf 0 p).getLsbD 7
  · simp
  · simp [hpoly]

/-- The remainder of `x p` is the doubling of the remainder of `p`: the division of `x p` is that of `p`, one degree up, and one
round more. -/
theorem polyMod_shiftLeft_one {p : BitVec 16} (hp : p.getLsbD 15 = false) : polyMod (p <<< 1) = xt (polyMod p) := by
  have hlast : reduceAt p 7 = p := reduceAt_eq_self hp
  have hshift : [7, 6, 5, 4, 3, 2, 1].foldl reduceAt (p <<< 1) = [6, 5, 4, 3, 2, 1, 0].foldl reduceAt p <<< 1 :=
    foldl_reduceAt_shiftLeft_one [6, 5, 4, 3, 2, 1, 0] (by decide) p
  calc polyMod (p <<< 1)
    _ = byteOf 0 (reduceAt ([7, 6, 5, 4, 3, 2, 1].foldl reduceAt (p <<< 1)) 0) := rfl
    _ = xt (byteOf 0 ([6, 5, 4, 3, 2, 1, 0].foldl reduceAt p)) := by
      rw [hshift, byteOf_reduceAt_zero_shiftLeft_one]
    _ = xt (polyMod p) := by rw [polyMod_eq_foldl_reduceAt, List.foldl_cons (a := 7), hlast]

/-- The remainder of `x^k v` is `v` doubled `k` times. -/
theorem polyMod_zeroExtend_shiftLeft (v : Byte) {k : Nat} (hk : k ≤ 8) : polyMod (v.zeroExtend 16 <<< k) = xt^[k] v := by
  induction k with
  | zero => rw [BitVec.shiftLeft_zero, polyMod_zeroExtend]; rfl
  | succ k ih =>
    rw [BitVec.shiftLeft_add, polyMod_shiftLeft_one, ih (by omega), Function.iterate_succ_apply']
    simp [show 8 ≤ 15 - k by omega]

/-- The product, in the doubling basis: the doublings of `a` that the coefficients of `b` select. -/
theorem gfMul_eq_foldl_xt (a b : Byte) :
    gfMul a b = (List.range 8).foldl (fun acc k => if b.getLsbD k then acc ^^^ xt^[k] a else acc) 0 := by
  refine List.foldl_rel (r := fun (p : BitVec 16) (c : Byte) => polyMod p = c) (polyMod_zeroExtend 0) fun k hk p c hp => ?_
  have hk : k ≤ 8 := (List.mem_range.mp hk).le
  cases b.getLsbD k
  · exact hp
  · simp only [if_true, polyMod_xor, hp, polyMod_zeroExtend_shiftLeft a hk]

end Sys2Proof.Reference

namespace Sys2Proof.Machine

/-- Settles O23: the doublings that the multiplier selects are the remainders of the partial products. -/
theorem multiplyIsTheFieldProduct : Obligations.MultiplyIsTheFieldProduct := by
  intro v y
  have hrange : List.range 8 = [0, 1, 2, 3, 4, 5, 6, 7] := rfl
  have hlow (k : Nat) (hk : k < 4) : (y.y.zeroExtend 8).getLsbD k = y.y.getLsbD k := by
    simp [show k < 8 by omega]
  have hhigh (k : Nat) (hk : 4 ≤ k) : (y.y.zeroExtend 8).getLsbD k = false := by
    simp [hk]
  rw [Reference.gfMul_eq_foldl_xt, hrange]
  simp (disch := omega) only [List.foldl_cons, List.foldl_nil, hlow, hhigh, Reference.ite_xor_self]
  simp [multiply]

/-! ### ShiftRowsDual on byte numbers (R66 to R68) -/

/-- The stride of ShiftRowsDual (R66). -/
def rowStride (e : Bool) : Nat := if e then 5 else 13

/-- The two columns of a half continue one walk by the stride round the 16 bytes. -/
theorem shiftRowsIndex_eq (e : Bool) (j : Nat) : shiftRowsIndex e j = j * rowStride e % 16 := by
  have hindex : shiftRowsIndex e j =
      if j < 4 then j * rowStride e % 16 else ((j - 4) * rowStride e + 4) % 16 := rfl
  rw [hindex]
  split
  · rfl
  · cases e
    · simp only [rowStride, Bool.false_eq_true, if_false]; omega
    · simp only [rowStride, if_true]; omega

/-- Exchanging the halves renumbers the bytes by 8. -/
theorem stateByte_swap (lo hi : Word64) {k : Nat} (hk : k < 16) : stateByte hi lo k = stateByte lo hi ((k + 8) % 16) := by
  unfold stateByte
  by_cases h : k < 8
  · rw [if_pos h, if_neg (by omega), show (k + 8) % 16 - 8 = k by omega]
  · rw [if_neg h, if_pos (by omega), show (k + 8) % 16 = k - 8 by omega]

/-- Byte `k` of the shifted state is byte `k` times the stride of the state, in both halves. -/
theorem stateByte_shiftRows (lo hi : Word64) (e : Bool) {k : Nat} (hk : k < 16) :
    stateByte (shiftRows lo hi e) (shiftRows hi lo e) k = stateByte lo hi (k * rowStride e % 16) := by
  by_cases h : k < 8
  · rw [stateByte, if_pos h, byteOf_shiftRows _ _ _ _ h, shiftRowsIndex_eq]
  · have hturn : ((k - 8) * rowStride e % 16 + 8) % 16 = k * rowStride e % 16 := by
      cases e
      · simp only [rowStride, Bool.false_eq_true, if_false]; omega
      · simp only [rowStride, if_true]; omega
    rw [stateByte, if_neg h, byteOf_shiftRows _ _ _ _ (by omega), shiftRowsIndex_eq,
      stateByte_swap _ _ (Nat.mod_lt _ (by decide)), hturn]

/-- The two strides are inverse to each other modulo 16: 5 * 13 = 65. -/
theorem mul_rowStride_mul_rowStride_not (e : Bool) {k : Nat} (hk : k < 16) :
    k * rowStride (!e) % 16 * rowStride e % 16 = k := by
  cases e
  · simp only [rowStride, Bool.not_false, Bool.false_eq_true, if_true, if_false]; omega
  · simp only [rowStride, Bool.not_true, Bool.false_eq_true, if_true, if_false]; omega

/-- The other direction on the shifted halves gives the first half back (R68). -/
theorem shiftRows_not_shiftRows (lo hi : Word64) (e : Bool) :
    shiftRows (shiftRows lo hi e) (shiftRows hi lo e) (!e) = lo := by
  refine ext_bytes64 fun k hk => ?_
  rw [byteOf_shiftRows _ _ _ _ hk, shiftRowsIndex_eq, stateByte_shiftRows _ _ _ (Nat.mod_lt _ (by decide)),
    mul_rowStride_mul_rowStride_not e (by omega), stateByte, if_pos hk]

/-- Settles O28: the second half is the first one of the exchanged state. -/
theorem shiftRowsUndoesItself : Obligations.ShiftRowsUndoesItself :=
  fun lo hi e => ⟨shiftRows_not_shiftRows lo hi e, shiftRows_not_shiftRows hi lo e⟩

end Sys2Proof.Machine

/-! PROOFS. The statements of 41_aes.md that name no field product: DS.32 (R70), and the two key-schedule forms, KS1.64 (R81) and
KS2.64 (R82). -/

namespace Sys2Proof.Machine

open Reference

/-! ### Rotating one byte into place (R49, R69) -/

/-- On the bytes of a word the BarrelShiftNetwork's LeftRotate is a rotation left by whole bytes (R54, item 5). -/
theorem word4_leftRotate (v : Word32) {j : Nat} (hj : j < 4) :
    word4 (barrelShift 0 (bytesOf4 v) j .leftRotate) = rotl v (8 * j) :=
  ext_bytes32 fun k hk => by rw [byteOf_word4_leftRotate v j k hj hk, byteOf_rotl32 v k j hk hj]

/-- A 32-bit round operation XORs the rotated word into `rs1`; the word is the substituted byte, or its MixColumn (R70 to R73). -/
theorem aes32_eq_xor_rotl (op : RoundOp) (bs : BitVec 2) (rs1 rs2 : Word32) :
    aes32 op bs rs1 rs2 = rs1 ^^^ rotl
      (if roundMixes op then mixColumn8 (substitute (byteOf bs.toNat rs2) (roundEncrypts op)) (roundEncrypts op)
        else (substitute (byteOf bs.toNat rs2) (roundEncrypts op)).zeroExtend 32) (8 * bs.toNat) := by
  rw [aes32, word4_leftRotate _ bs.isLt]

/-- A byte rotated left by at most three bytes loses no bit, so the rotation is a shift. -/
theorem rotl_zeroExtend_byte (b : Byte) {j : Nat} (hj : j < 4) :
    rotl (b.zeroExtend 32 : Word32) (8 * j) = b.zeroExtend 32 <<< (8 * j) := by
  refine BitVec.eq_of_getLsbD_eq fun i hi => ?_
  rw [getLsbD_rotl _ _ _ hi, BitVec.getLsbD_shiftLeft]
  by_cases h : i < 8 * j
  · have hhigh : 8 ≤ (i + (32 - 8 * j % 32)) % 32 := by omega
    simp [h, hhigh]
  · have hindex : (i + (32 - 8 * j % 32)) % 32 = i - 8 * j := by omega
    simp [h, hi, hindex]

@[simp] theorem byteOf_zero {w : Nat} (k : Nat) : byteOf k 0#w = 0#8 := by simp [byteOf]

/-- The inverse substitution of the zero byte (R58, R59). -/
theorem substitute_zero_false : substitute 0#8 false = 0x52 := by decide

/-- Settles O29: the bytes of the rotated word are 0 except byte `bs`, which is the inverse substitution. -/
theorem ds32Result : Obligations.Ds32Result := by
  refine ⟨fun bs => ⟨rfl, ctlFn_packCtl _ _ _ _⟩, fun s p bs hp => ?_⟩
  have hrd := aes32_eq_xor_rotl .ds bs p.rs1 p.rs2
  refine ⟨aes32 .ds bs p.rs1 p.rs2, drive32_x32 hp _, hrd, fun k hk => byteOf_aes32 .ds bs p.rs1 p.rs2 k hk, fun h0 => ?_⟩
  have hso : substitute (byteOf bs.toNat p.rs2) false = 0x52 := by simp [h0, substitute_zero_false]
  calc aes32 .ds bs p.rs1 p.rs2
    _ = p.rs1 ^^^ rotl ((substitute (byteOf bs.toNat p.rs2) false).zeroExtend 32) (8 * bs.toNat) := hrd
    _ = p.rs1 ^^^ ((0x52 : Word32) <<< (8 * bs.toNat)) := by rw [hso, rotl_zeroExtend_byte _ bs.isLt]; rfl

/-! ### The word of KS1 (R61, R75, R81) -/

/-- Byte `k` of SubWord. -/
theorem byteOf_subWord (w : Word32) {k : Nat} (hk : k < 4) : byteOf k (subWord w) = substitute (byteOf k w) true := by
  have hword : subWord w = word4 (Vector.ofFn fun k => substitute (byteOf k.val w) true) := rfl
  rw [hword, byteOf_word4 _ _ hk, Vector.getElem_ofFn]

/-- The low half of the bytewise substitution of a widened word is SubWord of the word. -/
theorem lo32_substituteBytes_zeroExtend (w : Word32) : lo32 (substituteBytes (w.zeroExtend 64) true) = subWord w := by
  have hlow : lo32 (w.zeroExtend 64) = w := by
    refine BitVec.eq_of_getLsbD_eq fun i hi => ?_
    rw [getLsbD_lo32 _ _ hi]
    simp [hi, show i < 64 by omega]
  refine ext_bytes32 fun k hk => ?_
  rw [byteOf_lo32 _ _ hk, byteOf_substituteBytes _ _ _ (by omega), ← byteOf_lo32 _ _ hk, hlow, byteOf_subWord w hk]

/-- A rotation right by 8 puts byte 0 on top of the other three. -/
theorem rotr_eight (w : Word32) : rotr w 8 = byteOf 0 w ++ w.extractLsb' 8 24 := by
  refine BitVec.eq_of_getLsbD_eq fun i hi => ?_
  rw [getLsbD_rotr _ _ _ hi]
  refine Eq.trans ?_ (BitVec.getLsbD_append (x := byteOf 0 w) (y := w.extractLsb' 8 24)).symm
  by_cases h : i < 24
  · have hindex : (i + 8) % 32 = 8 + i := by omega
    simp [h, hindex]
  · have hindex : (i + 8) % 32 = i - 24 := by omega
    rw [if_neg h, getLsbD_byteOf, hindex]
    simp [show i - 24 < 8 by omega]

/-- The round constants: the powers of `x` for the first eight rounds, two reduced ones, and 0 from 10 on (R61). -/
theorem rcon_zeroExtend (rnum : BitVec 4) : ((rcon rnum).zeroExtend 32 : Word32) =
    if rnum.toNat < 8 then (1 : Word32) <<< rnum.toNat
    else if rnum = 8 then 0x1B else if rnum = 9 then 0x36 else 0 := by
  revert rnum; decide

/-- Settles O38: the low half of the substitution is SubWord of the word chosen by `rnum`, and the table gives the constant. -/
theorem ks164Result : Obligations.Ks164Result := by
  refine ⟨fun rnum => ⟨rfl, ctlFn_packCtl _ _ _ _⟩, fun s p rnum hp => ⟨_, _, rfl, rfl, ?_⟩⟩
  rw [exec_ks1_64, drive64_x64 hp, aes64_ks1, lo32_substituteBytes_zeroExtend, rcon_zeroExtend, ks1Word, rotr_eight]
  rfl

/-! ### The XOR chain of KS2 (R82) -/

@[simp] theorem lo32_zero : lo32 0#64 = 0#32 := rfl
@[simp] theorem hi32_zero : hi32 0#64 = 0#32 := rfl

/-- Settles O39: the equation of KS2; a zero `rs2` has zero halves. -/
theorem ks264Result : Obligations.Ks264Result := by
  refine ⟨⟨rfl, ctlFn_packCtl _ _ _ _⟩, fun s p hp => ⟨_, _, rfl, rfl, ?_, fun h0 => ?_⟩⟩
  · rw [exec_ks2_64, drive64_x64 hp, aes64_ks2]; rfl
  · simp [h0]

end Sys2Proof.Machine

/-! PROOFS. The statements of 42_sha2.md. The eight one-register functions have two shapes, two rotations and a shift (σ) or three
rotations (Σ); each shape is said once, at any width and for any amounts, and so is what a form that drives it leaves on `rd`. -/

namespace Sys2Proof.Machine

/-! ### Bits of a shifted word, in the direction the statements count them -/

theorem getLsbD_shiftRight_add {w : Nat} (v : BitVec w) (n i : Nat) : (v >>> n).getLsbD i = v.getLsbD (i + n) := by
  rw [BitVec.getLsbD_ushiftRight, Nat.add_comm]

theorem getLsbD_shiftLeft_sub {w : Nat} (v : BitVec w) (n : Nat) {i : Nat} (hi : i < w) :
    (v <<< n).getLsbD i = (decide (n ≤ i) && v.getLsbD (i - n)) := by
  rw [BitVec.getLsbD_shiftLeft, decide_eq_true hi, Bool.true_and, ← decide_not, decide_eq_decide.mpr Nat.not_lt]

/-! ### The two shapes -/

/-- The shape of σ0 and σ1: two rotations and a shift (R85, R86, R89, R90). -/
def smallSigma {w : Nat} (a b c : Nat) (x : BitVec w) : BitVec w := rotr x a ^^^ rotr x b ^^^ (x >>> c)

/-- The shape of Σ0 and Σ1: three rotations (R87, R88, R91, R92). -/
def bigSigma {w : Nat} (a b c : Nat) (x : BitVec w) : BitVec w := rotr x a ^^^ rotr x b ^^^ rotr x c

theorem getLsbD_smallSigma {w : Nat} (a b c : Nat) (x : BitVec w) {i : Nat} (hi : i < w) : (smallSigma a b c x).getLsbD i =
    (x.getLsbD ((i + a) % w) ^^ x.getLsbD ((i + b) % w) ^^ x.getLsbD (i + c)) := by
  simp only [smallSigma, BitVec.getLsbD_xor, getLsbD_rotr _ _ _ hi, getLsbD_shiftRight_add]

theorem getLsbD_bigSigma {w : Nat} (a b c : Nat) (x : BitVec w) {i : Nat} (hi : i < w) : (bigSigma a b c x).getLsbD i =
    (x.getLsbD ((i + a) % w) ^^ x.getLsbD ((i + b) % w) ^^ x.getLsbD ((i + c) % w)) := by
  simp only [bigSigma, BitVec.getLsbD_xor, getLsbD_rotr _ _ _ hi]

@[simp] theorem smallSigma_zero {w : Nat} (a b c : Nat) : smallSigma a b c 0#w = 0#w :=
  BitVec.eq_of_getLsbD_eq fun i hi => by simp [getLsbD_smallSigma _ _ _ _ hi]

@[simp] theorem bigSigma_zero {w : Nat} (a b c : Nat) : bigSigma a b c 0#w = 0#w :=
  BitVec.eq_of_getLsbD_eq fun i hi => by simp [getLsbD_bigSigma _ _ _ _ hi]

/-- Each bit is the XOR of three ones. -/
@[simp] theorem bigSigma_allOnes {w : Nat} (a b c : Nat) : bigSigma a b c (BitVec.allOnes w) = BitVec.allOnes w :=
  BitVec.eq_of_getLsbD_eq fun i hi => by
    have hmod (n : Nat) : (i + n) % w < w := Nat.mod_lt _ (by omega)
    simp [getLsbD_bigSigma _ _ _ _ hi, hi, hmod]

/-! ### Widening (R84) -/

/-- The low word of a widened function is the function of the low word. -/
theorem getLsbD_widened (f : Word32 → Word32) (x : Word64) {i : Nat} (hi : i < 32) :
    (widened f x).getLsbD i = (f (lo32 x)).getLsbD i := by
  simp only [widened, widen64, BitVec.getLsbD_signExtend, hi, show i < 64 by omega, decide_true, Bool.true_and, if_true]

/-- The high word of a widened function copies bit 31. -/
theorem getLsbD_widened_of_ge (f : Word32 → Word32) (x : Word64) {i : Nat} (hge : 32 ≤ i) (hi : i < 64) :
    (widened f x).getLsbD i = (widened f x).getLsbD 31 := by
  rw [getLsbD_widened f x (i := 31) (by decide), widened, widen64, BitVec.getLsbD_signExtend, if_neg (by omega),
    decide_eq_true hi, Bool.true_and, BitVec.msb_eq_getLsbD_last]

theorem widened_zero {f : Word32 → Word32} (hf : f 0 = 0) {x : Word64} (hx : lo32 x = 0) : widened f x = 0 := by
  rw [widened, hx, hf]; rfl

theorem widened_allOnes {f : Word32 → Word32} (hf : f (BitVec.allOnes 32) = BitVec.allOnes 32) {x : Word64}
    (hx : lo32 x = BitVec.allOnes 32) : widened f x = BitVec.allOnes 64 := by
  rw [widened, hx, hf]; rfl

/-- A bit of the low word, at any index. -/
theorem getLsbD_lo32_eq (x : Word64) (i : Nat) : (lo32 x).getLsbD i = (decide (i < 32) && x.getLsbD i) := by
  simp [lo32]

/-! ### What a form of each shape leaves on `rd` -/

section Forms

variable {i : Instr} {a b c : Nat} {s : State}

/-- A σ form on a 32-bit core (R85, R86). -/
theorem exec_smallSigma_x32 {f : Word32 → Word32} (hexec : ∀ s, exec i s = s.drive32 fun x _ => f x)
    (hf : f = smallSigma a b c) {p : DataPorts 32} (hp : s.data = .x32 p) : ∃ rd,
    exec i s = .next { s with data := .x32 { p with rd := some rd } } ∧ (p.rs1 = 0 → rd = 0) ∧
    ∀ j < 32, rd.getLsbD j = (p.rs1.getLsbD ((j + a) % 32) ^^ p.rs1.getLsbD ((j + b) % 32) ^^ p.rs1.getLsbD (j + c)) := by
  subst hf
  exact ⟨_, (hexec s).trans (drive32_x32 hp _), fun h0 => by simp [h0], fun j hj => getLsbD_smallSigma _ _ _ _ hj⟩

/-- A σ form on a 64-bit core, at 64 bits (R89, R90). -/
theorem exec_smallSigma_x64 {f : Word64 → Word64} (hexec : ∀ s, exec i s = s.drive64 fun x _ => f x)
    (hf : f = smallSigma a b c) {p : DataPorts 64} (hp : s.data = .x64 p) : ∃ rd,
    exec i s = .next { s with data := .x64 { p with rd := some rd } } ∧ (p.rs1 = 0 → rd = 0) ∧
    ∀ j < 64, rd.getLsbD j = (p.rs1.getLsbD ((j + a) % 64) ^^ p.rs1.getLsbD ((j + b) % 64) ^^ p.rs1.getLsbD (j + c)) := by
  subst hf
  exact ⟨_, (hexec s).trans (drive64_x64 hp _), fun h0 => by simp [h0], fun j hj => getLsbD_smallSigma _ _ _ _ hj⟩

/-- A σ form on a 64-bit core, at 32 bits and widened (R84 to R86). -/
theorem exec_widened_smallSigma {f : Word32 → Word32} (hexec : ∀ s, exec i s = s.drive64 fun x _ => widened f x)
    (hf : f = smallSigma a b c) {p : DataPorts 64} (hp : s.data = .x64 p) : ∃ rd,
    exec i s = .next { s with data := .x64 { p with rd := some rd } } ∧ (lo32 p.rs1 = 0 → rd = 0) ∧
    (∀ j < 32, rd.getLsbD j = (p.rs1.getLsbD ((j + a) % 32) ^^ p.rs1.getLsbD ((j + b) % 32) ^^
      (decide (j + c < 32) && p.rs1.getLsbD (j + c)))) ∧
    ∀ j, 32 ≤ j → j < 64 → rd.getLsbD j = rd.getLsbD 31 := by
  subst hf
  refine ⟨_, (hexec s).trans (drive64_x64 hp _), fun h0 => widened_zero (smallSigma_zero _ _ _) h0, fun j hj => ?_,
    fun j hge hj => getLsbD_widened_of_ge _ _ hge hj⟩
  have hmod (n : Nat) : (j + n) % 32 < 32 := Nat.mod_lt _ (by decide)
  rw [getLsbD_widened _ _ hj, getLsbD_smallSigma _ _ _ _ hj, getLsbD_lo32 _ _ (hmod a), getLsbD_lo32 _ _ (hmod b),
    getLsbD_lo32_eq]

/-- A Σ form on a 32-bit core (R87, R88). -/
theorem exec_bigSigma_x32 {f : Word32 → Word32} (hexec : ∀ s, exec i s = s.drive32 fun x _ => f x)
    (hf : f = bigSigma a b c) {p : DataPorts 32} (hp : s.data = .x32 p) : ∃ rd,
    exec i s = .next { s with data := .x32 { p with rd := some rd } } ∧ (p.rs1 = 0 → rd = 0) ∧
    (p.rs1 = BitVec.allOnes 32 → rd = BitVec.allOnes 32) ∧
    ∀ j < 32, rd.getLsbD j =
      (p.rs1.getLsbD ((j + a) % 32) ^^ p.rs1.getLsbD ((j + b) % 32) ^^ p.rs1.getLsbD ((j + c) % 32)) := by
  subst hf
  exact ⟨_, (hexec s).trans (drive32_x32 hp _), fun h0 => by simp [h0], fun h1 => by rw [h1, bigSigma_allOnes],
    fun j hj => getLsbD_bigSigma _ _ _ _ hj⟩

/-- A Σ form on a 64-bit core, at 64 bits (R91, R92). -/
theorem exec_bigSigma_x64 {f : Word64 → Word64} (hexec : ∀ s, exec i s = s.drive64 fun x _ => f x)
    (hf : f = bigSigma a b c) {p : DataPorts 64} (hp : s.data = .x64 p) : ∃ rd,
    exec i s = .next { s with data := .x64 { p with rd := some rd } } ∧
    (p.rs1 = BitVec.allOnes 64 → rd = BitVec.allOnes 64) ∧
    ∀ j < 64, rd.getLsbD j =
      (p.rs1.getLsbD ((j + a) % 64) ^^ p.rs1.getLsbD ((j + b) % 64) ^^ p.rs1.getLsbD ((j + c) % 64)) := by
  subst hf
  exact ⟨_, (hexec s).trans (drive64_x64 hp _), fun h1 => by rw [h1, bigSigma_allOnes], fun j hj => getLsbD_bigSigma _ _ _ _ hj⟩

/-- A Σ form on a 64-bit core, at 32 bits and widened (R84, R87, R88). -/
theorem exec_widened_bigSigma {f : Word32 → Word32} (hexec : ∀ s, exec i s = s.drive64 fun x _ => widened f x)
    (hf : f = bigSigma a b c) {p : DataPorts 64} (hp : s.data = .x64 p) : ∃ rd,
    exec i s = .next { s with data := .x64 { p with rd := some rd } } ∧ (lo32 p.rs1 = 0 → rd = 0) ∧
    (lo32 p.rs1 = BitVec.allOnes 32 → rd = BitVec.allOnes 64) ∧
    (∀ j < 32, rd.getLsbD j =
      (p.rs1.getLsbD ((j + a) % 32) ^^ p.rs1.getLsbD ((j + b) % 32) ^^ p.rs1.getLsbD ((j + c) % 32))) ∧
    ∀ j, 32 ≤ j → j < 64 → rd.getLsbD j = rd.getLsbD 31 := by
  subst hf
  refine ⟨_, (hexec s).trans (drive64_x64 hp _), fun h0 => widened_zero (bigSigma_zero _ _ _) h0,
    fun h1 => widened_allOnes (bigSigma_allOnes _ _ _) h1, fun j hj => ?_, fun j hge hj => getLsbD_widened_of_ge _ _ hge hj⟩
  have hmod (n : Nat) : (j + n) % 32 < 32 := Nat.mod_lt _ (by decide)
  rw [getLsbD_widened _ _ hj, getLsbD_bigSigma _ _ _ _ hj, getLsbD_lo32 _ _ (hmod a), getLsbD_lo32 _ _ (hmod b),
    getLsbD_lo32 _ _ (hmod c)]

end Forms

/-! ### SHA-256 (R85 to R88) -/

/-- Settles O40: SHA256SIG0 is the σ shape with amounts 7, 18 and 3. -/
theorem sha256Sig0Result : Obligations.Sha256Sig0Result :=
  ⟨⟨rfl, ctlFn_packCtl _ _ _ _⟩, ⟨rfl, ctlFn_packCtl _ _ _ _⟩, fun _ _ hp => exec_smallSigma_x32 exec_sha256sig0_32 rfl hp,
    fun _ _ hp => exec_widened_smallSigma exec_sha256sig0_64 rfl hp⟩

/-- Settles O41: SHA256SIG1 is the σ shape with amounts 17, 19 and 10. -/
theorem sha256Sig1Result : Obligations.Sha256Sig1Result :=
  ⟨⟨rfl, ctlFn_packCtl _ _ _ _⟩, ⟨rfl, ctlFn_packCtl _ _ _ _⟩, fun _ _ hp => exec_smallSigma_x32 exec_sha256sig1_32 rfl hp,
    fun _ _ hp => exec_widened_smallSigma exec_sha256sig1_64 rfl hp⟩

/-- Settles O42: SHA256SUM0 is the Σ shape with amounts 2, 13 and 22. -/
theorem sha256Sum0Result : Obligations.Sha256Sum0Result :=
  ⟨⟨rfl, ctlFn_packCtl _ _ _ _⟩, ⟨rfl, ctlFn_packCtl _ _ _ _⟩, fun _ _ hp => exec_bigSigma_x32 exec_sha256sum0_32 rfl hp,
    fun _ _ hp => exec_widened_bigSigma exec_sha256sum0_64 rfl hp⟩

/-- Settles O43: SHA256SUM1 is the Σ shape with amounts 6, 11 and 25. -/
theorem sha256Sum1Result : Obligations.Sha256Sum1Result :=
  ⟨⟨rfl, ctlFn_packCtl _ _ _ _⟩, ⟨rfl, ctlFn_packCtl _ _ _ _⟩, fun _ _ hp => exec_bigSigma_x32 exec_sha256sum1_32 rfl hp,
    fun _ _ hp => exec_widened_bigSigma exec_sha256sum1_64 rfl hp⟩

/-! ### SHA-512 at XLEN = 64 (R89 to R92) -/

/-- Settles O44: SHA512SIG0 is the σ shape with amounts 1, 8 and 7. -/
theorem sha512Sig0Result64 : Obligations.Sha512Sig0Result64 :=
  ⟨⟨rfl, ctlFn_packCtl _ _ _ _⟩, fun _ _ hp => exec_smallSigma_x64 exec_sha512sig0_64 rfl hp⟩

/-- Settles O45: SHA512SIG1 is the σ shape with amounts 19, 61 and 6. -/
theorem sha512Sig1Result64 : Obligations.Sha512Sig1Result64 :=
  ⟨⟨rfl, ctlFn_packCtl _ _ _ _⟩, fun _ _ hp => exec_smallSigma_x64 exec_sha512sig1_64 rfl hp⟩

/-- Settles O46: SHA512SUM0 is the Σ shape with amounts 28, 34 and 39. -/
theorem sha512Sum0Result64 : Obligations.Sha512Sum0Result64 :=
  ⟨⟨rfl, ctlFn_packCtl _ _ _ _⟩, fun _ _ hp => exec_bigSigma_x64 exec_sha512sum0_64 rfl hp⟩

/-- Settles O47: SHA512SUM1 is the Σ shape with amounts 14, 18 and 41. -/
theorem sha512Sum1Result64 : Obligations.Sha512Sum1Result64 :=
  ⟨⟨rfl, ctlFn_packCtl _ _ _ _⟩, fun _ _ hp => exec_bigSigma_x64 exec_sha512sum1_64 rfl hp⟩

/-! ### SHA-512 at XLEN = 32 (R93 to R96) -/

/-- The low-half form of σ0 has one term more than the high-half form (R93). -/
theorem sha512Sig0Half_false (a b : Word32) : sha512Sig0Half false a b = sha512Sig0Half true a b ^^^ (b <<< 25) := by
  simp only [sha512Sig0Half, if_true, Bool.false_eq_true, if_false, BitVec.xor_assoc]

/-- The low-half form of σ1 has one term more than the high-half form (R94). -/
theorem sha512Sig1Half_false (a b : Word32) : sha512Sig1Half false a b = sha512Sig1Half true a b ^^^ (b <<< 26) := by
  simp only [sha512Sig1Half, if_true, Bool.false_eq_true, if_false, BitVec.xor_assoc]

/-- What two forms leave on `rd` of which the `hl` = 0 one adds `b << n` to the function of the `hl` = 1 one (R93, R94). -/
theorem exec_half_pair {i j : Instr} {f : Bool → Word32 → Word32 → Word32} {n : Nat}
    (hi : ∀ s, exec i s = s.drive32 (f false)) (hj : ∀ s, exec j s = s.drive32 (f true))
    (hf : ∀ a b, f false a b = f true a b ^^^ (b <<< n)) {s : State} {p : DataPorts 32} (hp : s.data = .x32 p)
    {bit : Nat → Bool} (hbit : ∀ k < 32, (f true p.rs1 p.rs2).getLsbD k = bit k) : ∃ l h,
    exec i s = .next { s with data := .x32 { p with rd := some l } } ∧
    exec j s = .next { s with data := .x32 { p with rd := some h } } ∧ (p.rs2 = 0 → l = h) ∧
    ∀ k < 32, h.getLsbD k = bit k ∧ l.getLsbD k = (h.getLsbD k ^^ (decide (n ≤ k) && p.rs2.getLsbD (k - n))) := by
  refine ⟨_, _, (hi s).trans (drive32_x32 hp _), (hj s).trans (drive32_x32 hp _), fun h0 => ?_, fun k hk => ⟨hbit k hk, ?_⟩⟩
  · rw [hf, h0]; simp
  · rw [hf, BitVec.getLsbD_xor, getLsbD_shiftLeft_sub _ _ hk]

/-- Settles O48: the `hl` = 0 form adds `b << 25`, and each bit of the `hl` = 1 form is the XOR of the bits its shifts select. -/
theorem sha512Sig0HalfResult32 : Obligations.Sha512Sig0HalfResult32 :=
  ⟨⟨rfl, ctlFn_packCtl _ _ _ _⟩, ctlHl_packCtl _ _ _ _, ⟨rfl, ctlFn_packCtl _ _ _ _⟩, ctlHl_packCtl _ _ _ _, fun _ _ hp =>
    exec_half_pair exec_sha512sig0l_32 exec_sha512sig0h_32 sha512Sig0Half_false hp fun k hk => by
      simp only [sha512Sig0Half, if_true, BitVec.getLsbD_xor, getLsbD_shiftRight_add, getLsbD_shiftLeft_sub _ _ hk,
        Bool.xor_assoc]⟩

/-- Settles O49: the `hl` = 0 form adds `b << 26`, and each bit of the `hl` = 1 form is the XOR of the bits its shifts select. -/
theorem sha512Sig1HalfResult32 : Obligations.Sha512Sig1HalfResult32 :=
  ⟨⟨rfl, ctlFn_packCtl _ _ _ _⟩, ctlHl_packCtl _ _ _ _, ⟨rfl, ctlFn_packCtl _ _ _ _⟩, ctlHl_packCtl _ _ _ _, fun _ _ hp =>
    exec_half_pair exec_sha512sig1l_32 exec_sha512sig1h_32 sha512Sig1Half_false hp fun k hk => by
      simp only [sha512Sig1Half, if_true, BitVec.getLsbD_xor, getLsbD_shiftRight_add, getLsbD_shiftLeft_sub _ _ hk,
        Bool.xor_assoc]⟩

/-- Settles O50: each bit is the XOR of the bits that the six shifts select. -/
theorem sha512Sum0HalfResult32 : Obligations.Sha512Sum0HalfResult32 := by
  refine ⟨⟨rfl, ctlFn_packCtl _ _ _ _⟩, fun s p hp =>
    ⟨_, (exec_sha512sum0r_32 s).trans (drive32_x32 hp _), fun i hi => ?_⟩⟩
  simp only [sha512Sum0Half, BitVec.getLsbD_xor, getLsbD_shiftRight_add, getLsbD_shiftLeft_sub _ _ hi, Bool.xor_assoc]

/-- Settles O51: each bit is the XOR of the bits that the six shifts select. -/
theorem sha512Sum1HalfResult32 : Obligations.Sha512Sum1HalfResult32 := by
  refine ⟨⟨rfl, ctlFn_packCtl _ _ _ _⟩, fun s p hp =>
    ⟨_, (exec_sha512sum1r_32 s).trans (drive32_x32 hp _), fun i hi => ?_⟩⟩
  simp only [sha512Sum1Half, BitVec.getLsbD_xor, getLsbD_shiftRight_add, getLsbD_shiftLeft_sub _ _ hi, Bool.xor_assoc]

end Sys2Proof.Machine

/-! PROOFS. The statements of 43_dispatch.md: a step is the evaluation function of R102, CryptoDispatch is it as a table (R98,
R99), and `valid` has no part in it (R100). The decoder and the evaluation function both branch on the operation code that `fn`
stands for, so one lemma per group of codes says what a step does. -/

namespace Sys2Proof.Machine

/-! ### The operation code on `fn` (R39) -/

/-- The code read from `fn` has `fn` as its numeral. -/
theorem toFn_of_mem_ofFn? : ∀ fn, ∀ c ∈ OpCode.ofFn? fn, c.toFn = fn := by decide

/-- Only 15 stands for no code (R42). -/
theorem eq_fifteen_of_ofFn?_eq_none : ∀ fn, OpCode.ofFn? fn = none → fn = 15 := by decide

/-! ### What a step does, by group of codes (R102) -/

section
variable {s : State}

theorem step_round_x32 {op : RoundOp} (hx : s.xlen = .x32) (hc : OpCode.ofFn? s.fn = some (.aes (.round op))) :
    step s = s.drive32 (aes32 op s.bs) := by
  have hfn := toFn_of_mem_ofFn? _ _ hc
  cases op <;> simp [step, hx, decode, ← hfn, OpCode.toFn]

theorem step_sha_x32 {f : ShaFn} (hx : s.xlen = .x32) (hc : OpCode.ofFn? s.fn = some (.sha f)) :
    step s = s.drive32 (sha32 f s.hl) := by
  have hfn := toFn_of_mem_ofFn? _ _ hc
  cases f
  -- the decoder branches on `hl` here, and `sha32` hands it on
  case sha512sig0 | sha512sig1 => cases hhl : s.hl <;> simp [step, hx, decode, ← hfn, OpCode.toFn, hhl] <;> rfl
  all_goals simp [step, hx, decode, ← hfn, OpCode.toFn]; rfl

theorem step_aes_x64 {op : AesOp} (hx : s.xlen = .x64) (hc : OpCode.ofFn? s.fn = some (.aes op)) :
    step s = s.drive64 (aes64 op s.rnum) := by
  have hfn := toFn_of_mem_ofFn? _ _ hc
  cases op
  case round op => cases op <;> simp [step, hx, decode, ← hfn, OpCode.toFn]
  all_goals simp [step, hx, decode, ← hfn, OpCode.toFn]

theorem step_sha_x64 {f : ShaFn} (hx : s.xlen = .x64) (hc : OpCode.ofFn? s.fn = some (.sha f)) :
    step s = s.drive64 fun rs1 _ => sha64 f rs1 := by
  have hfn := toFn_of_mem_ofFn? _ _ hc
  cases f <;> simp [step, hx, decode, ← hfn, OpCode.toFn, sha64]

/-- 15 raises at either XLEN (R101). -/
theorem step_of_fn_eq_fifteen (h : s.fn = 15) : step s = .fault (.invalidOperation s.fn) := by
  cases hx : s.xlen <;> simp [step, hx, decode, h]

/-- A 32-bit core has no AES code but the four round operations (R74). -/
theorem step_not_round_x32 {op : AesOp} (hx : s.xlen = .x32) (hc : OpCode.ofFn? s.fn = some (.aes op))
    (hop : ∀ r, op ≠ .round r) : step s = .fault (.invalidOperation s.fn) := by
  have hfn := toFn_of_mem_ofFn? _ _ hc
  cases op
  case round r => exact absurd rfl (hop r)
  all_goals simp [step, hx, decode, ← hfn, OpCode.toFn]

end

/-- Settles O13: each group of codes runs the function that `evaluate` takes for it, and every other `fn` raises in both. -/
theorem stepIsEvaluate : Obligations.StepIsEvaluate := by
  refine ⟨fun s p hp => ?_, fun s p hp => ?_⟩
  · have hx := xlen_of_x32 hp
    simp only [evaluate32, State.request]
    cases hc : OpCode.ofFn? s.fn with
    | none => exact step_of_fn_eq_fifteen (eq_fifteen_of_ofFn?_eq_none _ hc)
    | some c => cases c with
      | aes op => cases op with
        | round op => exact (step_round_x32 hx hc).trans (drive32_x32 hp _)
        | im | ks1 | ks2 => exact step_not_round_x32 hx hc (by simp)
      | sha f => exact (step_sha_x32 hx hc).trans (drive32_x32 hp _)
  · have hx := xlen_of_x64 hp
    simp only [evaluate64, State.request]
    cases hc : OpCode.ofFn? s.fn with
    | none => exact step_of_fn_eq_fifteen (eq_fifteen_of_ofFn?_eq_none _ hc)
    | some c => cases c with
      | aes op => exact (step_aes_x64 hx hc).trans (drive64_x64 hp _)
      | sha f => exact (step_sha_x64 hx hc).trans (drive64_x64 hp _)

/-! ### The table of results (R98, R99, R101) -/

/-- The seven AES codes select one entry (R99). -/
theorem cryptoDispatch_aes {w : Nat} (aes : Except InvalidOperation (BitVec w)) (sha) {fn : BitVec 4} {op : AesOp}
    (hc : OpCode.ofFn? fn = some (.aes op)) : cryptoDispatch (List.replicate 7 aes ++ sha) fn = aes := by
  rw [← toFn_of_mem_ofFn? _ _ hc]
  cases op
  case round op => cases op <;> rfl
  all_goals rfl

theorem cryptoDispatch_sha_x32 {r : Request 32} {f : ShaFn} (hc : OpCode.ofFn? r.fn = some (.sha f)) :
    cryptoDispatch (dispatchTable32 r) r.fn = .ok (sha32 f r.hl r.rs1 r.rs2) := by
  rw [← toFn_of_mem_ofFn? _ _ hc]
  cases f <;> rfl

theorem cryptoDispatch_sha_x64 {r : Request 64} {f : ShaFn} (hc : OpCode.ofFn? r.fn = some (.sha f)) :
    cryptoDispatch (dispatchTable64 r) r.fn = .ok (sha64 f r.rs1) := by
  rw [← toFn_of_mem_ofFn? _ _ hc]
  cases f <;> rfl

/-- The table has no entry 15 (R101). -/
theorem cryptoDispatch_of_fn_eq_fifteen {w : Nat} {table : List (Except InvalidOperation (BitVec w))} (hlen : table.length = 15)
    {fn : BitVec 4} (hfn : fn = 15) : cryptoDispatch table fn = .error ⟨fn⟩ := by
  subst hfn
  exact List.getD_eq_default _ _ hlen.le

/-- Settles O14: an AES code selects the AES computation, which branches as `evaluate` does, a SHA-2 code its own entry, and 15
none. -/
theorem cryptoDispatchIsEvaluate : Obligations.CryptoDispatchIsEvaluate := by
  refine ⟨fun r => ?_, fun r => ?_⟩
  · cases hc : OpCode.ofFn? r.fn with
    | none => rw [cryptoDispatch_of_fn_eq_fifteen rfl (eq_fifteen_of_ofFn?_eq_none _ hc), evaluate32, hc]
    | some c => cases c with
      | aes op =>
        rw [dispatchTable32, cryptoDispatch_aes _ _ hc, aesCore32, evaluate32, hc]
        cases op <;> rfl
      | sha f => rw [cryptoDispatch_sha_x32 hc, evaluate32, hc]
  · cases hc : OpCode.ofFn? r.fn with
    | none => rw [cryptoDispatch_of_fn_eq_fifteen rfl (eq_fifteen_of_ofFn?_eq_none _ hc), evaluate64, hc]
    | some c => cases c with
      | aes op => rw [dispatchTable64, cryptoDispatch_aes _ _ hc, aesCore64, evaluate64, hc]
      | sha f => rw [cryptoDispatch_sha_x64 hc, evaluate64, hc]

/-! ### `valid` (R100) -/

/-- The evaluation function does not read `valid`. -/
theorem evaluate32_with_valid (s : State) (v : Bool) (a b : Word32) :
    evaluate32 (State.request { s with valid := v } a b) = evaluate32 (s.request a b) := rfl

theorem evaluate64_with_valid (s : State) (v : Bool) (a b : Word64) :
    evaluate64 (State.request { s with valid := v } a b) = evaluate64 (s.request a b) := rfl

/-- `rd` settles alike under any `valid`. -/
theorem settle_with_valid (s : State) (v : Bool) : State.settle { s with valid := v } = { s.settle with valid := v } := by
  cases hx : s.xlen with
  | x32 =>
    obtain ⟨p, hp⟩ := xlen_eq_x32.mp hx
    rw [settle_x32 hp, settle_x32 (s := { s with valid := v }) hp, evaluate32_with_valid]
  | x64 =>
    obtain ⟨p, hp⟩ := xlen_eq_x64.mp hx
    rw [settle_x64 hp, settle_x64 (s := { s with valid := v }) hp, evaluate64_with_valid]

/-- Settles O16: a step and settling `rd` are both `evaluate` of the request, which does not read `valid`. -/
theorem validDoesNotGate : Obligations.ValidDoesNotGate := by
  obtain ⟨step_eq_x32, step_eq_x64⟩ := stepIsEvaluate
  refine ⟨fun s v => ?_, fun s v hc => ?_⟩
  · cases hx : s.xlen with
    | x32 =>
      obtain ⟨p, hp⟩ := xlen_eq_x32.mp hx
      rw [step_eq_x32 s p hp, step_eq_x32 { s with valid := v } p hp, evaluate32_with_valid]
      cases evaluate32 (s.request p.rs1 p.rs2) <;> rfl
    | x64 =>
      obtain ⟨p, hp⟩ := xlen_eq_x64.mp hx
      rw [step_eq_x64 s p hp, step_eq_x64 { s with valid := v } p hp, evaluate64_with_valid]
      cases evaluate64 (s.request p.rs1 p.rs2) <;> rfl
  · calc s.withValid v = { s.settle with valid := v } := settle_with_valid s v
      _ = { s with valid := v } := by rw [hc]

end Sys2Proof.Machine

/-! PROOFS. The statements of 60_exceptions.md: a core is built for the widths 32 and 64 alone (R105), and a request that its XLEN
defines always completes (R109). -/

namespace Sys2Proof

/-! ### The widths that are built (R105) -/

theorem XLen.bits_eq_32_or_64 (x : XLen) : x.bits = 32 ∨ x.bits = 64 :=
  match x with
  | .x32 => .inl rfl
  | .x64 => .inr rfl

theorem XLen.construct_of_ne {n : Nat} (h32 : n ≠ 32) (h64 : n ≠ 64) : XLen.construct n = .error (.xlen n) := by
  rw [XLen.construct, if_neg h32, if_neg h64]

/-- Construction answers an XLEN for its own width and for no other. -/
theorem XLen.construct_eq_ok_iff {n : Nat} {x : XLen} : XLen.construct n = .ok x ↔ n = x.bits := by
  constructor
  · intro h
    by_cases h32 : n = 32
    · subst h32; cases h; rfl
    by_cases h64 : n = 64
    · subst h64; cases h; rfl
    rw [construct_of_ne h32 h64] at h
    cases h
  · rintro rfl
    cases x <;> rfl

end Sys2Proof

namespace Sys2Proof.Machine

/-- Settles O18: an XLEN is constructed for its own width only, and that is 32 or 64. -/
theorem onlyWidths32And64AreBuilt : Obligations.OnlyWidths32And64AreBuilt := by
  refine ⟨fun s => s.xlen.bits_eq_32_or_64, fun n => ⟨fun x h => (XLen.construct_eq_ok_iff.mp h).symm, ⟨?_, ?_⟩, ?_⟩⟩
  · rintro (rfl | rfl)
    · exact ⟨.x32, rfl⟩
    · exact ⟨.x64, rfl⟩
  · rintro ⟨x, h⟩
    rw [XLen.construct_eq_ok_iff.mp h]
    exact x.bits_eq_32_or_64
  · exact XLen.construct_of_ne

/-! ### The requests that a core defines (R107 to R109) -/

theorem legal_iff {s : State} :
    s.legal = true ↔ s.fn ≠ 15 ∧ ¬ (s.xlen = .x32 ∧ (s.fn = 4 ∨ s.fn = 5 ∨ s.fn = 6)) := by
  simp [State.legal, and_assoc, imp_iff_not_or]

/-- A legal request has an operation code, since 15 alone has none. -/
theorem exists_ofFn?_of_legal {s : State} (h : s.legal = true) : ∃ c, OpCode.ofFn? s.fn = some c :=
  Option.ne_none_iff_exists'.mp fun hnone => (legal_iff.mp h).1 (eq_fifteen_of_ofFn?_eq_none _ hnone)

/-- A legal AES request at XLEN = 32 is one of the four rounds: IM, KS1 and KS2 are not legal there. -/
theorem exists_round_of_legal_x32 {s : State} {op : AesOp} (h : s.legal = true) (hx : s.xlen = .x32)
    (hc : OpCode.ofFn? s.fn = some (.aes op)) : ∃ r, op = .round r := by
  have hfn : (OpCode.aes op).toFn = s.fn := toFn_of_mem_ofFn? _ _ hc
  have hnot : ¬ (s.fn = 4 ∨ s.fn = 5 ∨ s.fn = 6) := fun hbad => (legal_iff.mp h).2 ⟨hx, hbad⟩
  cases op with
  | round r => exact ⟨r, rfl⟩
  | im => exact absurd (.inl hfn.symm) hnot
  | ks1 => exact absurd (.inr (.inl hfn.symm)) hnot
  | ks2 => exact absurd (.inr (.inr hfn.symm)) hnot

/-- Settles O8: the operation code of a legal request is in a group that the core has, and a step of each group drives `rd`. -/
theorem legalRequestCompletes : Obligations.LegalRequestCompletes := by
  intro s hlegal
  obtain ⟨c, hc⟩ := exists_ofFn?_of_legal hlegal
  cases hx : s.xlen with
  | x32 =>
    obtain ⟨p, hp⟩ := xlen_eq_x32.mp hx
    cases c with
    | aes op =>
      obtain ⟨r, rfl⟩ := exists_round_of_legal_x32 hlegal hx hc
      exact ⟨_, (step_round_x32 hx hc).trans (drive32_x32 hp _)⟩
    | sha f => exact ⟨_, (step_sha_x32 hx hc).trans (drive32_x32 hp _)⟩
  | x64 =>
    obtain ⟨p, hp⟩ := xlen_eq_x64.mp hx
    cases c with
    | aes op => exact ⟨_, (step_aes_x64 hx hc).trans (drive64_x64 hp _)⟩
    | sha f => exact ⟨_, (step_sha_x64 hx hc).trans (drive64_x64 hp _)⟩

end Sys2Proof.Machine

/-! PROOFS. The statements of 30_encoding.md that hold the decoder against the encoder: a vector decodes to a form exactly when it
is the form's encoding on the bits the form reads (R41, R46). -/

namespace Sys2Proof.Machine

/-! ### A control vector field by field (R38) -/

@[simp] theorem ctlFn_and (a b : Ctl) : ctlFn (a &&& b) = ctlFn a &&& ctlFn b := BitVec.extractLsb'_and
@[simp] theorem ctlHl_and (a b : Ctl) : ctlHl (a &&& b) = (ctlHl a && ctlHl b) := BitVec.getLsbD_and
@[simp] theorem ctlBs_and (a b : Ctl) : ctlBs (a &&& b) = ctlBs a &&& ctlBs b := BitVec.extractLsb'_and
@[simp] theorem ctlRnum_and (a b : Ctl) : ctlRnum (a &&& b) = ctlRnum a &&& ctlRnum b := BitVec.extractLsb'_and

/-- Masking a control vector masks each of its fields. -/
theorem and_packCtl (ctl : Ctl) (fn : BitVec 4) (hl : Bool) (bs : BitVec 2) (rnum : BitVec 4) :
    ctl &&& packCtl fn hl bs rnum = packCtl (ctlFn ctl &&& fn) (ctlHl ctl && hl) (ctlBs ctl &&& bs) (ctlRnum ctl &&& rnum) := by
  rw [← packCtl_fields (ctl &&& packCtl fn hl bs rnum)]
  simp

/-! ### The mask of a form (R41, R46) -/

/-- The mask of a form covers the fields whose ports the form reads, and no other. -/
theorem readMask_eq (i : Instr) : i.readMask = packCtl 15 (decide (.hl ∈ portsRead i))
    (if .bs ∈ portsRead i then 3 else 0) (if .rnum ∈ portsRead i then 15 else 0) := by
  cases i <;> simp [Instr.readMask, portsRead, packCtl]

/-- What a form reads of a control vector: the fields of its ports, and 0 in place of the others. -/
theorem and_readMask (ctl : Ctl) (i : Instr) : ctl &&& i.readMask = packCtl (ctlFn ctl) (ctlHl ctl && decide (.hl ∈ portsRead i))
    (if .bs ∈ portsRead i then ctlBs ctl else 0) (if .rnum ∈ portsRead i then ctlRnum ctl else 0) := by
  have h15 (v : BitVec 4) : v &&& 15 = v := BitVec.and_allOnes
  have h3 (v : BitVec 2) : v &&& 3 = v := BitVec.and_allOnes
  rw [readMask_eq, and_packCtl, h15]
  congr 1
  · split
    · exact h3 _
    · exact BitVec.and_zero
  · split
    · exact h15 _
    · exact BitVec.and_zero

/-! ### Encoding and decoding (R46) -/

/-- A form decodes from its encoding. -/
theorem decode_encode (i : Instr) : decode i.xlen (encode i) = .ok i := by
  cases i <;> simp [decode, encode, Instr.xlen]

theorem wellFormed_iff {x : XLen} {i : Instr} : i.wellFormed x = true ↔ i.xlen = x := by simp [Instr.wellFormed]

/-- A form decoded is one of the core, and the vector is its encoding on the bits the form reads. -/
theorem encode_of_decode {x : XLen} {c : Ctl} {i : Instr} (h : decode x c = .ok i) :
    i.wellFormed x = true ∧ c &&& i.readMask = encode i := by
  rw [and_readMask]
  have hfn {n : Nat} (h : (ctlFn c).toNat = n) : ctlFn c = BitVec.ofNat 4 n := by rw [← h]; simp
  cases x with
  | x64 =>
    simp only [decode] at h
    split at h
    -- the last arm alone rejects
    case h_16 => cases h
    all_goals
      rename_i hk
      cases h
      exact ⟨rfl, by simp [portsRead, encode, hfn hk]⟩
  | x32 =>
    simp only [decode] at h
    split at h
    case h_13 => cases h
    -- `hl` chooses between the two forms of SHA512SIG0, and of SHA512SIG1
    case h_9 hk | h_10 hk =>
      split at h
      all_goals
        rename_i hhl
        cases h
        exact ⟨rfl, by simp [portsRead, encode, hfn hk, hhl]⟩
    all_goals
      rename_i hk
      cases h
      exact ⟨rfl, by simp [portsRead, encode, hfn hk]⟩

/-- An encoding has no bit outside the form's mask (R48). -/
theorem encode_and_readMask (i : Instr) : encode i &&& i.readMask = encode i :=
  (encode_of_decode (decode_encode i)).right

/-- A vector decodes to a form exactly when the form is of the core and the vector is its encoding on the bits the form reads. -/
theorem decode_eq_ok_iff {x : XLen} {c : Ctl} {i : Instr} :
    decode x c = .ok i ↔ i.wellFormed x = true ∧ c &&& i.readMask = encode i := by
  refine ⟨encode_of_decode, fun ⟨hwf, hc⟩ => ?_⟩
  obtain rfl := wellFormed_iff.mp hwf
  have hread : c &&& i.readMask = encode i &&& i.readMask := hc.trans (encode_and_readMask i).symm
  rw [and_readMask, and_readMask] at hread
  refine decode_congr_portsRead (decode_encode i) ?_ (fun hm => ?_) (fun hm => ?_) (fun hm => ?_)
  · simpa using congrArg ctlFn hread.symm
  · simpa [hm] using congrArg ctlHl hread.symm
  · simpa [hm] using congrArg ctlBs hread.symm
  · simpa [hm] using congrArg ctlRnum hread.symm

/-- Settles O4: the bits added lie outside the mask, so on the bits the form reads the vector is the encoding still. -/
theorem decodeOfEncodeIsTheForm : Obligations.DecodeOfEncodeIsTheForm := by
  intro x i junk hwf
  have hjunk : junk &&& ~~~i.readMask &&& i.readMask = 0#11 := by
    rw [BitVec.and_assoc, BitVec.and_comm (~~~_), BitVec.and_not_self]
    exact BitVec.and_zero
  refine decode_eq_ok_iff.mpr ⟨hwf, ?_⟩
  rw [BitVec.and_or_distrib_right, encode_and_readMask, hjunk, BitVec.or_zero]

/-- Settles O5: each arm of the decoder fixes the fields that its form reads. -/
theorem decodedVectorIsTheEncoding : Obligations.DecodedVectorIsTheEncoding :=
  fun _ _ _ => encode_of_decode

/-- Settles O3: each vector is written out, and the decoder computes. -/
theorem sampleControlVectorsDecode : Obligations.SampleControlVectorsDecode := by
  unfold Obligations.SampleControlVectorsDecode
  decide

end Sys2Proof.Machine

/-! PROOFS. The statements of 10_state.md, 60_exceptions.md and 70_reset_and_hazards.md that say what a step is: it settles `rd` for
a legal request and raises for any other (R107 to R109, R126), and `rd` follows every input that is driven (R26, R122). -/

namespace Sys2Proof.Machine

/-! ### Every step settles `rd` or raises (R107 to R109, R122, R126) -/

theorem not_legal_iff {s : State} :
    s.legal = false ↔ s.fn = 15 ∨ (s.xlen = .x32 ∧ (s.fn = 4 ∨ s.fn = 5 ∨ s.fn = 6)) := by
  rw [← Bool.not_eq_true, legal_iff, not_and_or, not_not, not_not]

/-- A request that the core does not define raises InvalidOperation with its `fn` (R107, R108). -/
theorem step_of_not_legal {s : State} (h : s.legal = false) : step s = .fault (.invalidOperation s.fn) := by
  obtain h15 | ⟨hx, h4 | h5 | h6⟩ := not_legal_iff.mp h
  · exact step_of_fn_eq_fifteen h15
  · exact step_not_round_x32 (op := .im) hx (by rw [h4]; rfl) (by simp)
  · exact step_not_round_x32 (op := .ks1) hx (by rw [h5]; rfl) (by simp)
  · exact step_not_round_x32 (op := .ks2) hx (by rw [h6]; rfl) (by simp)

/-- A step that completes settles `rd`, and one that raises is of a request for which `rd` has no value. -/
theorem step_cases (s : State) :
    (step s = .next s.settle ∧ s.settle.rdValue.isSome = true) ∨
    ((∃ f, step s = .fault f) ∧ s.settle.rdValue.isSome = false) := by
  obtain ⟨step_eq_x32, step_eq_x64⟩ := stepIsEvaluate
  cases hp : s.data with
  | x32 p =>
    rw [step_eq_x32 s p hp, settle_x32 hp]
    cases evaluate32 (s.request p.rs1 p.rs2) with
    | ok v => exact .inl ⟨rfl, rfl⟩
    | error e => exact .inr ⟨⟨_, rfl⟩, rfl⟩
  | x64 p =>
    rw [step_eq_x64 s p hp, settle_x64 hp]
    cases evaluate64 (s.request p.rs1 p.rs2) with
    | ok v => exact .inl ⟨rfl, rfl⟩
    | error e => exact .inr ⟨⟨_, rfl⟩, rfl⟩

/-- A legal request settles `rd` and nothing else happens (R109, R126). -/
theorem step_of_legal {s : State} (h : s.legal = true) : step s = .next s.settle := by
  obtain ⟨hstep, -⟩ | ⟨⟨f, hf⟩, -⟩ := step_cases s
  · exact hstep
  · obtain ⟨t, ht⟩ := legalRequestCompletes s h
    rw [hf] at ht
    cases ht

/-- A settled `rd` has a value exactly for the legal requests. -/
theorem isSome_rdValue_settle (s : State) : s.settle.rdValue.isSome = s.legal := by
  obtain ⟨hstep, hsome⟩ | ⟨⟨f, hf⟩, hnone⟩ := step_cases s
  · cases hl : s.legal with
    | true => exact hsome
    | false =>
      rw [step_of_not_legal hl] at hstep
      cases hstep
  · cases hl : s.legal with
    | true =>
      rw [step_of_legal hl] at hf
      cases hf
    | false => exact hnone

/-- A step that answers a state answers the settled one. -/
theorem eq_settle_of_step {s t : State} (h : step s = .next t) : t = s.settle := by
  obtain ⟨hstep, -⟩ | ⟨⟨f, hf⟩, -⟩ := step_cases s
  · rw [hstep] at h
    cases h
    rfl
  · rw [hf] at h
    cases h

/-- Settles O11: the state answered is the settled one, and settling changes no input and not the XLEN. -/
theorem stepLeavesRdCurrent : Obligations.StepLeavesRdCurrent := by
  intro s t h
  obtain rfl := eq_settle_of_step h
  exact ⟨settle_settle s, settle_xlen s, settle_port s⟩

/-- Settles O7: a legal request completes, and the others are those named. -/
theorem invalidOperationExactly : Obligations.InvalidOperationExactly := by
  intro s f
  rw [← not_legal_iff]
  cases hl : s.legal with
  | true => simp [step_of_legal hl]
  | false => simp [step_of_not_legal hl, eq_comm]

/-- Settles O58: a current state is the settled one, whose `rd` has a value exactly for a legal request, and which a legal request
answers. -/
theorem evaluatingACurrentCoreChangesNothing : Obligations.EvaluatingACurrentCoreChangesNothing := by
  intro s hc
  refine ⟨?_, fun hl => ?_⟩
  · rw [← isSome_rdValue_settle, hc]
  · rw [step_of_legal hl, hc]

/-- Settles O1: a step runs the form decoded. -/
theorem stepRunsDecodedForm : Obligations.StepRunsDecodedForm :=
  fun _ _ => step_of_decode

/-- Settles O10: every form drives a core of its own XLEN, and a step settles `rd` or raises. -/
theorem otherXlenRefusedAndUnreachable : Obligations.OtherXlenRefusedAndUnreachable := by
  refine ⟨fun i s hx => ?_, fun s r hr => ?_⟩
  · obtain ⟨h32, f, hf⟩ | ⟨h64, f, hf⟩ := exec_cases i s
    · cases hp : s.data with
      | x32 p => exact absurd (h32.trans (xlen_of_x32 hp).symm) hx
      | x64 p => exact hf.trans (drive32_x64 hp f)
    · cases hp : s.data with
      | x32 p => exact hf.trans (drive64_x32 hp f)
      | x64 p => exact absurd (h64.trans (xlen_of_x64 hp).symm) hx
  · cases hl : s.legal with
    | true =>
      rw [step_of_legal hl] at hr
      cases hr
    | false =>
      rw [step_of_not_legal hl] at hr
      cases hr

/-! ### Driving the inputs (R26, R122) -/

@[simp] theorem withCtl_rdCurrent (s : State) (c : Ctl) : (s.withCtl c).rdCurrent := settle_settle _
@[simp] theorem withFetchWord_rdCurrent (s : State) (n w : Nat) : (s.withFetchWord n w).rdCurrent := settle_settle _
@[simp] theorem withValid_rdCurrent (s : State) (v : Bool) : (s.withValid v).rdCurrent := settle_settle _

/-- A 32-bit core takes the low halves of the operands driven (log 19). -/
theorem withOperands_x32 {s : State} {p : DataPorts 32} (hp : s.data = .x32 p) (a b : Word64) :
    s.withOperands a b = State.settle { s with data := .x32 { p with rs1 := lo32 a, rs2 := lo32 b } } := by
  simp [State.withOperands, hp]

/-- A 64-bit core takes the operands driven whole. -/
theorem withOperands_x64 {s : State} {p : DataPorts 64} (hp : s.data = .x64 p) (a b : Word64) :
    s.withOperands a b = State.settle { s with data := .x64 { p with rs1 := a, rs2 := b } } := by
  simp [State.withOperands, hp]

theorem toNat_lo32 (v : Word64) : (lo32 v).toNat = v.toNat % 2 ^ 32 := by simp [lo32]

/-- What driving both operands leaves on the operand ports, and that `rd` follows. -/
theorem withOperands_ports (s : State) (a b : Word64) : (s.withOperands a b).rdCurrent ∧
    (s.withOperands a b).port .rs1 = a.toNat % 2 ^ s.xlen.bits ∧
    (s.withOperands a b).port .rs2 = b.toNat % 2 ^ s.xlen.bits := by
  cases hp : s.data with
  | x32 p =>
    rw [withOperands_x32 hp, xlen_of_x32 hp]
    refine ⟨settle_settle _, ?_, ?_⟩
    · rw [settle_port, port_rs1_x32 rfl]; exact toNat_lo32 a
    · rw [settle_port, port_rs2_x32 rfl]; exact toNat_lo32 b
  | x64 p =>
    rw [withOperands_x64 hp, xlen_of_x64 hp]
    refine ⟨settle_settle _, ?_, ?_⟩
    · rw [settle_port, port_rs1_x64 rfl]; exact (Nat.mod_eq_of_lt a.isLt).symm
    · rw [settle_port, port_rs2_x64 rfl]; exact (Nat.mod_eq_of_lt b.isLt).symm

/-- On a 32-bit core `rd` is current exactly when it holds what `evaluate` gives. -/
theorem rdCurrent_iff_x32 {s : State} {p : DataPorts 32} (hp : s.data = .x32 p) :
    s.rdCurrent ↔ p.rd = (evaluate32 (s.request p.rs1 p.rs2)).toOption := by
  obtain ⟨fn, hl, bs, rnum, valid, data⟩ := s
  subst hp
  rw [State.rdCurrent, settle_x32 rfl, outputOf_eq_toOption]
  cases p
  simp [eq_comm]

/-- On a 64-bit core `rd` is current exactly when it holds what `evaluate` gives. -/
theorem rdCurrent_iff_x64 {s : State} {p : DataPorts 64} (hp : s.data = .x64 p) :
    s.rdCurrent ↔ p.rd = (evaluate64 (s.request p.rs1 p.rs2)).toOption := by
  obtain ⟨fn, hl, bs, rnum, valid, data⟩ := s
  subst hp
  rw [State.rdCurrent, settle_x64 rfl, outputOf_eq_toOption]
  cases p
  simp [eq_comm]

/-- Settles O57: every operation that drives an input ends in settling, which leaves the inputs as they were driven. -/
theorem rdFollowsTheInputsAtAllTimes : Obligations.RdFollowsTheInputsAtAllTimes :=
  ⟨fun s c => ⟨withCtl_rdCurrent s c, withCtl_ctl s c⟩,
    fun s n w => ⟨withFetchWord_rdCurrent s n w, withFetchWord_ctl s n w⟩,
    fun s v => ⟨withValid_rdCurrent s v, withValid_valid s v⟩,
    withOperands_ports,
    fun r => ⟨settle_settle _, _, present32_data r, present32_request r⟩,
    fun r => ⟨settle_settle _, _, present64_data r, present64_request r⟩,
    fun _ _ => rdCurrent_iff_x32, fun _ _ => rdCurrent_iff_x64⟩

/-! ### Words of the opcode table (log 2) -/

/-- A word that is read as a form is a control vector that decodes to it. -/
theorem decode_of_decodeWord {x : XLen} {w : Nat} {i : Instr} (h : decodeWord x w = .ok i) :
    decode x (BitVec.ofNat 11 w) = .ok i := by
  unfold decodeWord at h
  split at h
  · split at h
    case h_1 hd => cases h; exact hd
    case h_2 => cases h
  · cases h

/-- A table word is read as the reset core reads it (log 1). -/
theorem decodeTableWord_eq_some_iff {n w : Nat} {i : Instr} :
    decodeTableWord n w = some i ↔ decodeWord State.reset.xlen (w % 2 ^ n) = .ok i := by
  have hreset : State.reset.xlen = Config.xlen := rfl
  rw [decodeTableWord, hreset]
  cases decodeWord Config.xlen (w % 2 ^ n) <;> simp

/-- Settles O2: the word driven is the control vector that the step decodes, and driving it leaves the other inputs. -/
theorem fetchWordIsNextRequest : Obligations.FetchWordIsNextRequest := by
  refine ⟨fun s n w i h => ⟨step_of_decode ?_, withFetchWord_xlen s n w, withFetchWord_rdCurrent s n w, ?_⟩,
    fun _ _ _ => decodeTableWord_eq_some_iff⟩
  · rw [withFetchWord_xlen, withFetchWord_ctl]
    exact decode_of_decodeWord h
  · have hvalid : (s.withFetchWord n w).port .valid = s.port .valid := congrArg Bool.toNat (withFetchWord_valid s n w)
    simp [hvalid]

/-- Settles O12: both constructed cores hold a zero request, whose value `evaluate` computes (R70, R78). -/
theorem constructedCoreIsCurrent : Obligations.ConstructedCoreIsCurrent := by
  have h32 : (State.construct .x32).rdCurrent := (rdCurrent_iff_x32 rfl).mpr rfl
  have h64 : (State.construct .x64).rdCurrent := (rdCurrent_iff_x64 rfl).mpr rfl
  refine ⟨fun x => ?_, h64⟩
  cases x with
  | x32 => exact ⟨rfl, h32⟩
  | x64 => exact ⟨rfl, h64⟩

end Sys2Proof.Machine

/-! PROOFS. The statements of 00_scope.md, 20_memory.md and 40_primitives.md on what moves bits, bytes and elements: the rotations and
the byte numbering (R12, R14, R27), the BarrelShiftNetwork (R49 to R54), and the constants a multiplier is built with (R57, R106). -/

namespace Sys2Proof.Machine

/-! ### Rotations of an index -/

/-- Going round by `k` and on by what is missing from `k` to a full turn comes back. -/
theorem add_mod_add_sub_mod {n i : Nat} (k : Nat) (hi : i < n) : ((i + k) % n + (n - k % n)) % n = i := by
  have hk : k % n < n := Nat.mod_lt k (by omega)
  have hturn : i + k + (n - k % n) = i + n * (k / n + 1) := by
    rw [Nat.mul_add, Nat.mul_one]
    have := Nat.div_add_mod k n
    omega
  rw [Nat.mod_add_mod, hturn, Nat.add_mul_mod_self_left, Nat.mod_eq_of_lt hi]

/-- The same in the other order. -/
theorem add_sub_mod_mod_add {n i : Nat} (k : Nat) (hi : i < n) : ((i + (n - k % n)) % n + k) % n = i := by
  rw [Nat.mod_add_mod, Nat.add_right_comm, ← Nat.mod_add_mod, add_mod_add_sub_mod k hi]

/-! ### Rotations of a word (R12) -/

@[simp] theorem rotl_rotr {w : Nat} (v : BitVec w) (n : Nat) : rotl (rotr v n) n = v := by
  refine BitVec.eq_of_getLsbD_eq fun i hi => ?_
  rw [getLsbD_rotl _ _ _ hi, getLsbD_rotr _ _ _ (Nat.mod_lt _ (by omega)), add_sub_mod_mod_add n hi]

@[simp] theorem rotr_rotl {w : Nat} (v : BitVec w) (n : Nat) : rotr (rotl v n) n = v := by
  refine BitVec.eq_of_getLsbD_eq fun i hi => ?_
  rw [getLsbD_rotr _ _ _ hi, getLsbD_rotl _ _ _ (Nat.mod_lt _ (by omega)), add_mod_add_sub_mod n hi]

/-! ### Words and their bytes (R14, R27) -/

theorem getLsbD_byteOf_of_lt {w : Nat} (k : Nat) (v : BitVec w) {j : Nat} (hj : j < 8) :
    (byteOf k v).getLsbD j = v.getLsbD (8 * k + j) := by
  rw [getLsbD_byteOf, decide_eq_true hj, Bool.true_and]

@[simp] theorem word4_bytesOf4 (v : Word32) : word4 (bytesOf4 v) = v :=
  ext_bytes32 fun k hk => by rw [byteOf_word4 _ _ hk, getElem_bytesOf4]

@[simp] theorem word8_bytesOf8 (v : Word64) : word8 (bytesOf8 v) = v :=
  ext_bytes64 fun k hk => by rw [byteOf_word8 _ _ hk, getElem_bytesOf8]

@[simp] theorem bytesOf4_word4 (b : Vector Byte 4) : bytesOf4 (word4 b) = b :=
  Vector.ext fun k hk => by rw [getElem_bytesOf4, byteOf_word4 _ _ hk]

@[simp] theorem bytesOf8_word8 (b : Vector Byte 8) : bytesOf8 (word8 b) = b :=
  Vector.ext fun k hk => by rw [getElem_bytesOf8, byteOf_word8 _ _ hk]

/-- Settles O20: a bit of a word is the bit of the byte it lies in, and a word is its bytes. -/
theorem rotationAndByteNumbering : Obligations.RotationAndByteNumbering := by
  refine ⟨fun _ => getLsbD_rotr, fun _ v n => ⟨rotl_rotr v n, rotr_rotl v n⟩, fun _ v k _ => getLsbD_byteOf_of_lt k v, ?_, ?_,
    word4_bytesOf4, word8_bytesOf8, bytesOf4_word4, bytesOf8_word8⟩
  · intro b k j h hj
    rw [← getLsbD_byteOf_of_lt k _ hj, byteOf_word4 _ _ h]
  · intro b k j h hj
    rw [← getLsbD_byteOf_of_lt k _ hj, byteOf_word8 _ _ h]

/-! ### The BarrelShiftNetwork (R49 to R54) -/

section BarrelShift

variable {α : Type} {n : Nat} (z : α) (e : Vector α n)

/-- A rotation right by the full length is the identity (R54, item 2). -/
theorem rightRotate_length : barrelShift z e n .rightRotate = e :=
  Vector.ext fun i hi => by simp only [getElem_rightRotate, Nat.add_mod_right, Nat.mod_eq_of_lt hi]

/-- A left rotation is a right rotation by the rest of the turn (R54, item 3). -/
theorem leftRotate_eq_rightRotate (k : Nat) : barrelShift z e k .leftRotate = barrelShift z e (n - k % n) .rightRotate := rfl

/-- A rotation left by a full turn, or by none, is the identity (R54, items 1 and 2). -/
theorem leftRotate_of_mod_eq_zero {k : Nat} (hk : k % n = 0) : barrelShift z e k .leftRotate = e := by
  rw [leftRotate_eq_rightRotate, hk, Nat.sub_zero, rightRotate_length]

/-- A shift by 0 is the identity in every mode (R54, item 1). -/
theorem barrelShift_zero (m : ShiftMode) : barrelShift z e 0 m = e := by
  cases m with
  | leftRotate => exact leftRotate_of_mod_eq_zero z e (Nat.zero_mod n)
  | rightRotate => exact Vector.ext fun i hi => by simp only [getElem_rightRotate, Nat.add_zero, Nat.mod_eq_of_lt hi]
  | leftShift => exact Vector.ext fun i hi => by simp [getElem_leftShift]
  | rightShift => exact Vector.ext fun i hi => by simp [getElem_rightShift, hi]

/-- A left rotation is undone by the right one (R54, item 4). -/
theorem rightRotate_leftRotate (k : Nat) : barrelShift z (barrelShift z e k .leftRotate) k .rightRotate = e :=
  Vector.ext fun i hi => by simp only [getElem_rightRotate, getElem_leftRotate, add_mod_add_sub_mod k hi]

end BarrelShift

/-- On the bytes of a word the network's RightRotate is a rotation right by whole bytes (R54, item 5). -/
theorem word4_rightRotate (v : Word32) (j : Nat) : word4 (barrelShift 0 (bytesOf4 v) j .rightRotate) = rotr v (8 * j) :=
  ext_bytes32 fun k hk => by rw [byteOf_word4 _ _ hk, getElem_rightRotate, getElem_bytesOf4, byteOf_rotr32 v k j hk]

/-- Settles O21: each item is an identity of indices; a left shift by 1 loses the last of four elements. -/
theorem barrelShiftProperties : Obligations.BarrelShiftProperties :=
  ⟨fun _ _ => barrelShift_zero,
    fun _ n z e => ⟨leftRotate_of_mod_eq_zero z e (Nat.mod_self n), rightRotate_length z e⟩,
    fun _ _ => leftRotate_eq_rightRotate, fun _ _ => rightRotate_leftRotate,
    ⟨#v[1, 2, 3, 4], 1, by decide⟩,
    fun v k hk => ⟨word4_leftRotate v (by omega), word4_rightRotate v k⟩⟩

/-- Settles O22: the element equations of the two modes, with the condition of each decided. -/
theorem shiftModesMoveAndFillWithZero : Obligations.ShiftModesMoveAndFillWithZero := by
  intro α n z e k i hi
  refine ⟨fun hmove => ⟨?_, ?_⟩, fun hlow => ?_, fun hhigh => ?_⟩
  · rw [getElem_leftShift, if_pos (Nat.le_add_right k i)]
    simp only [Nat.add_sub_cancel_left]
  · rw [getElem_rightShift, dif_pos (by omega)]
    simp only [Nat.add_comm i k]
  · rw [getElem_leftShift, if_neg (by omega)]
  · rw [getElem_rightShift, dif_neg (by omega)]

/-! ### The constants of a multiplier (R57, R106) -/

/-- Below 16 only the number 0 has no bit set. -/
theorem ofNat_four_ne_zero_iff {n : Nat} (hn : n < 16) : BitVec.ofNat 4 n ≠ 0#4 ↔ n ≠ 0 := by
  rw [Ne, ← BitVec.toNat_inj, BitVec.toNat_ofNat, Nat.mod_eq_of_lt hn]
  rfl

/-- Settles O19: the four bits of a number from 1 to 15 are the number and not zero; 0 has only zeros, and 16 or more is refused by
its size. -/
theorem onlyMultiplierConstants1To15AreBuilt : Obligations.OnlyMultiplierConstants1To15AreBuilt := by
  intro n
  refine ⟨fun hlow hhigh => ?_, fun hout => ?_⟩
  · have hlt : n < 16 := by omega
    have hne : BitVec.ofNat 4 n ≠ 0#4 := (ofNat_four_ne_zero_iff hlt).mpr (by omega)
    exact ⟨⟨BitVec.ofNat 4 n, hne⟩, dif_pos ⟨hne, hlt⟩, (BitVec.toNat_ofNat n 4).trans (Nat.mod_eq_of_lt hlt)⟩
  · have hrefused : ¬ (BitVec.ofNat 4 n ≠ 0#4 ∧ n < 16) := fun ⟨hne, hlt⟩ =>
      hout ⟨Nat.pos_of_ne_zero ((ofNat_four_ne_zero_iff hlt).mp hne), by omega⟩
    exact dif_neg hrefused

end Sys2Proof.Machine

/-! PROOFS. The statements of 40_primitives.md on AES: the S-box against the field inverse (R58), MixColumns as a matrix and its inverse
(R62 to R65), and ShiftRowsDual against the rows of the state (R67). -/

namespace Sys2Proof.Machine

open Reference

/-! ### The S-box (R58, R59) -/

/-- The inverse of the affine map of the S-box. -/
def affineInv (s : Byte) : Byte := rotl s 1 ^^^ rotl s 3 ^^^ rotl s 6 ^^^ 0x05

/-- `affineInv` is an inverse of `affine`. -/
theorem affine_affineInv : ∀ s : Byte, affine (affineInv s) = s := by decide +kernel

/-- Undoing the affine map on a value of the table leaves the field inverse. -/
theorem gfMul_affineInv_substitute : ∀ b : Byte, b ≠ 0 → gfMul b (affineInv (substitute b true)) = 1 := by decide +kernel

@[simp] theorem substitute_false_substitute_true : ∀ b : Byte, substitute (substitute b true) false = b := by decide +kernel
@[simp] theorem substitute_true_substitute_false : ∀ b : Byte, substitute (substitute b false) true = b := by decide +kernel

/-- Settles O24: the field inverse is what the affine map takes to the value in the table. -/
theorem sboxIsAffineOfFieldInverse : Obligations.SboxIsAffineOfFieldInverse := by
  intro b
  refine ⟨⟨affineInv (substitute b true), ?_, gfMul_affineInv_substitute b, (affine_affineInv _).symm⟩,
    substitute_false_substitute_true b, substitute_true_substitute_false b⟩
  rintro rfl
  decide

/-! ### The multiples of a byte that MixColumn takes (R56, R57) -/

theorem multiply_c2 (v : Byte) : multiply v .c2 = gfMul v 2 := multiplyIsTheFieldProduct v .c2
theorem multiply_c3 (v : Byte) : multiply v .c3 = gfMul v 3 := multiplyIsTheFieldProduct v .c3
theorem multiply_c9 (v : Byte) : multiply v .c9 = gfMul v 9 := multiplyIsTheFieldProduct v .c9
theorem multiply_cB (v : Byte) : multiply v .cB = gfMul v 0xB := multiplyIsTheFieldProduct v .cB
theorem multiply_cD (v : Byte) : multiply v .cD = gfMul v 0xD := multiplyIsTheFieldProduct v .cD
theorem multiply_cE (v : Byte) : multiply v .cE = gfMul v 0xE := multiplyIsTheFieldProduct v .cE

/-! ### MixColumns as a circulant matrix (R63) -/

/-- Row `r` of mixColumn32: the same four multiples in every row, of the bytes from `r` on. -/
theorem byteOf_mixColumn32_row (w : Word32) (e : Bool) {r : Nat} (hr : r < 4) : byteOf r (mixColumn32 w e) =
    byteOf 0 (mixColumn8 (byteOf r w) e) ^^^ byteOf 3 (mixColumn8 (byteOf ((r + 1) % 4) w) e) ^^^
    byteOf 2 (mixColumn8 (byteOf ((r + 2) % 4) w) e) ^^^ byteOf 1 (mixColumn8 (byteOf ((r + 3) % 4) w) e) := by
  rw [byteOf_mixColumn32 w e r hr]
  obtain rfl | rfl | rfl | rfl : r = 0 ∨ r = 1 ∨ r = 2 ∨ r = 3 := by omega
  · rfl
  all_goals
    simp only [Nat.reduceAdd, Nat.reduceMod]
    ac_rfl

/-- Settles O25: the multiples in a row are those of mixColumn8. -/
theorem mixColumn32IsTheAesMatrix : Obligations.MixColumn32IsTheAesMatrix := by
  intro w r hr
  rw [byteOf_mixColumn32_row w true hr, byteOf_mixColumn32_row w false hr]
  refine ⟨?_, ?_⟩
  · simp only [byteOf_mixColumn8_true, multiply_c2, multiply_c3]
  · simp only [byteOf_mixColumn8_false, multiply_c9, multiply_cB, multiply_cD, multiply_cE]

/-! ### MixColumns is linear and turns with its operand -/

@[simp] theorem rotl_xor {w : Nat} (a b : BitVec w) (n : Nat) : rotl (a ^^^ b) n = rotl a n ^^^ rotl b n := by
  refine BitVec.eq_of_getLsbD_eq fun i hi => ?_
  simp only [BitVec.getLsbD_xor, getLsbD_rotl _ _ _ hi]

@[simp] theorem mixColumn8_xor (a b : Byte) (e : Bool) : mixColumn8 (a ^^^ b) e = mixColumn8 a e ^^^ mixColumn8 b e := by
  refine ext_bytes32 fun k hk => ?_
  obtain rfl | rfl | rfl | rfl : k = 0 ∨ k = 1 ∨ k = 2 ∨ k = 3 := by omega
  all_goals cases e <;> simp only [byteOf_xor, byteOf_mixColumn8_true, byteOf_mixColumn8_false, multiply_xor]

@[simp] theorem mixColumn32_xor (a b : Word32) (e : Bool) : mixColumn32 (a ^^^ b) e = mixColumn32 a e ^^^ mixColumn32 b e := by
  simp only [mixColumn32, byteOf_xor, mixColumn8_xor, rotl_xor]
  ac_rfl

/-- Every row of the matrix has the same entries, so a column turned by whole bytes gives the product turned. -/
theorem mixColumn32_rotl (w : Word32) (e : Bool) {j : Nat} (hj : j < 4) :
    mixColumn32 (rotl w (8 * j)) e = rotl (mixColumn32 w e) (8 * j) := by
  refine ext_bytes32 fun r hr => ?_
  have hrow (k : Nat) : byteOf ((r + k) % 4) (rotl w (8 * j)) = byteOf (((r + (4 - j)) % 4 + k) % 4) w := by
    rw [byteOf_rotl32 _ _ _ (Nat.mod_lt _ (by decide)) hj, Nat.mod_add_mod, Nat.mod_add_mod, Nat.add_right_comm]
  rw [byteOf_rotl32 _ _ _ hr hj, byteOf_mixColumn32_row _ _ hr, byteOf_mixColumn32_row _ _ (Nat.mod_lt _ (by decide)),
    byteOf_rotl32 _ _ _ hr hj, hrow, hrow, hrow]

/-! ### MixColumns and its inverse (R65) -/

theorem multiply_c2_xt (v : Byte) : multiply v .c2 = xt v := by simp [multiply, GfConst.c2]
theorem multiply_c3_xt (v : Byte) : multiply v .c3 = v ^^^ xt v := by simp [multiply, GfConst.c3]
theorem multiply_c9_xt (v : Byte) : multiply v .c9 = v ^^^ xt (xt (xt v)) := by simp [multiply, GfConst.c9]
theorem multiply_cB_xt (v : Byte) : multiply v .cB = v ^^^ xt v ^^^ xt (xt (xt v)) := by simp [multiply, GfConst.cB]
theorem multiply_cD_xt (v : Byte) : multiply v .cD = v ^^^ xt (xt v) ^^^ xt (xt (xt v)) := by simp [multiply, GfConst.cD]
theorem multiply_cE_xt (v : Byte) : multiply v .cE = xt v ^^^ xt (xt v) ^^^ xt (xt (xt v)) := by simp [multiply, GfConst.cE]

theorem xor_left_comm {w : Nat} (a b c : BitVec w) : a ^^^ (b ^^^ c) = b ^^^ (a ^^^ c) := by ac_rfl

/-- The inverse matrix takes the column of a byte back to the byte: in the other rows the multiples cancel. -/
theorem mixColumn32_mixColumn8_not (b : Byte) (e : Bool) : mixColumn32 (mixColumn8 b e) (!e) = b.zeroExtend 32 := by
  refine ext_bytes32 fun r hr => ?_
  rw [byteOf_mixColumn32_row _ _ hr, byteOf_zeroExtend_byte]
  obtain rfl | rfl | rfl | rfl : r = 0 ∨ r = 1 ∨ r = 2 ∨ r = 3 := by omega
  all_goals cases e <;>
    simp [byteOf_mixColumn8_true, byteOf_mixColumn8_false, multiply_c2_xt, multiply_c3_xt, multiply_c9_xt, multiply_cB_xt,
      multiply_cD_xt, multiply_cE_xt, BitVec.xor_assoc, BitVec.xor_comm, xor_left_comm]

/-- Four bytes, each rotated into place, make the word of them. -/
theorem xor_rotl_zeroExtend_bytes (b : Vector Byte 4) :
    rotl (b[0].zeroExtend 32) (8 * 0) ^^^ rotl (b[1].zeroExtend 32) (8 * 1) ^^^ rotl (b[2].zeroExtend 32) (8 * 2) ^^^
      rotl (b[3].zeroExtend 32) (8 * 3) = word4 b := by
  refine ext_bytes32 fun k hk => ?_
  have hplace (v : Byte) {j : Nat} (hj : j < 4) : byteOf k (rotl (v.zeroExtend 32) (8 * j)) = if k = j then v else 0 := by
    rw [byteOf_rotl32 _ _ _ hk hj, byteOf_zeroExtend_byte]
    simp only [show (k + (4 - j)) % 4 = 0 ↔ k = j by omega]
  simp only [byteOf_xor, hplace _ (show 0 < 4 by decide), hplace _ (show 1 < 4 by decide), hplace _ (show 2 < 4 by decide),
    hplace _ (show 3 < 4 by decide), byteOf_word4 _ _ hk]
  obtain rfl | rfl | rfl | rfl : k = 0 ∨ k = 1 ∨ k = 2 ∨ k = 3 := by omega
  all_goals simp

/-- mixColumn32 with every rotation by a number of bytes. -/
theorem mixColumn32_eq (w : Word32) (e : Bool) : mixColumn32 w e =
    rotl (mixColumn8 (byteOf 0 w) e) (8 * 0) ^^^ rotl (mixColumn8 (byteOf 1 w) e) (8 * 1) ^^^
      rotl (mixColumn8 (byteOf 2 w) e) (8 * 2) ^^^ rotl (mixColumn8 (byteOf 3 w) e) (8 * 3) := rfl

@[simp] theorem mixColumn32_mixColumn32_not (w : Word32) (e : Bool) : mixColumn32 (mixColumn32 w e) (!e) = w := by
  have hbyte (b : Byte) {j : Nat} (hj : j < 4) :
      mixColumn32 (rotl (mixColumn8 b e) (8 * j)) (!e) = rotl (b.zeroExtend 32) (8 * j) := by
    rw [mixColumn32_rotl _ _ hj, mixColumn32_mixColumn8_not]
  rw [mixColumn32_eq w e, mixColumn32_xor, mixColumn32_xor, mixColumn32_xor, hbyte _ (by decide), hbyte _ (by decide),
    hbyte _ (by decide), hbyte _ (by decide)]
  simpa using xor_rotl_zeroExtend_bytes (bytesOf4 w)

@[simp] theorem mixColumn64_mixColumn64_not (w : Word64) (e : Bool) : mixColumn64 (mixColumn64 w e) (!e) = w :=
  ext_halves (by simp) (by simp)

/-- Settles O26: MixColumns is linear and turns with its operand, so the column of one byte decides. -/
theorem mixColumnsUndoEachOther : Obligations.MixColumnsUndoEachOther :=
  ⟨mixColumn32_mixColumn32_not, mixColumn64_mixColumn64_not⟩

/-! ### ShiftRowsDual and the rows of the state (R67) -/

/-- Walking by the stride from byte `r + 4c` turns row `r` by `r` columns, one way or the other. -/
theorem mul_rowStride_mod : ∀ e : Bool, ∀ r < 4, ∀ c < 4, (r + 4 * c) * rowStride e % 16 =
    r % 4 + 4 * (if e then (c + r % 4) % 4 else (c + 4 - r % 4) % 4) := by
  decide

/-- Settles O27: byte `k` of the shifted state is byte `k` times the stride of the state. -/
theorem shiftRowsDualIsAesShiftRows : Obligations.ShiftRowsDualIsAesShiftRows := by
  intro lo hi e r c hr hc
  rw [stateByte_shiftRows _ _ _ (by omega), mul_rowStride_mod e r hr c hc, shifted]

end Sys2Proof.Machine

/-! PROOFS. The statements of 41_aes.md on the round operations: the result of each form at either XLEN (R69 to R80), DS against ES over
the full state (R83), and a round computed by four 32-bit evaluations per column against the 64-bit one. -/

namespace Sys2Proof.Machine

open Reference

/-! ### Columns of a word and of the state (R28, R64, R67) -/

/-- Column `c` of a 64-bit word: one of its halves. -/
def column (w : Word64) (c : Nat) : Word32 := if c = 0 then lo32 w else hi32 w

theorem byteOf_column (w : Word64) {r c : Nat} (hr : r < 4) (hc : c < 2) : byteOf r (column w c) = byteOf (r + 4 * c) w := by
  obtain rfl | rfl : c = 0 ∨ c = 1 := by omega
  · exact byteOf_lo32 r w hr
  · exact byteOf_hi32 r w hr

theorem column_mixColumn64 (w : Word64) (e : Bool) (c : Nat) : column (mixColumn64 w e) c = mixColumn32 (column w c) e := by
  unfold column
  split
  · exact lo32_mixColumn64 w e
  · exact hi32_mixColumn64 w e

/-- The row of a byte of the shifted state is counted modulo 4. -/
theorem shifted_mod (e : Bool) (lo hi : Word64) (r c : Nat) : shifted e lo hi (r % 4) c = shifted e lo hi r c := by
  simp only [shifted, Nat.mod_mod]

/-- A byte of ShiftRowsDual is a byte of the shifted state, in the half that its operands come in. -/
theorem byteOf_shiftRows_eq_shifted (lo hi : Word64) (e : Bool) {r c : Nat} (hr : r < 4) (hc : c < 2) :
    byteOf (r + 4 * c) (shiftRows lo hi e) = shifted e lo hi r c := by
  rw [← shiftRowsDualIsAesShiftRows lo hi e r c hr (by omega), stateByte, if_pos (by omega)]

/-- ShiftRows then SubBytes, for encrypt, or the inverse of each. -/
def shiftSub (lo hi : Word64) (e : Bool) : Word64 := substituteBytes (shiftRows lo hi e) e

theorem byteOf_shiftSub (lo hi : Word64) (e : Bool) {k : Nat} (hk : k < 8) :
    byteOf k (shiftSub lo hi e) = substitute (byteOf k (shiftRows lo hi e)) e := byteOf_substituteBytes _ _ _ hk

theorem byteOf_shiftSub_eq_shifted (lo hi : Word64) (e : Bool) {r c : Nat} (hr : r < 4) (hc : c < 2) :
    byteOf (r + 4 * c) (shiftSub lo hi e) = substitute (shifted e lo hi r c) e := by
  rw [byteOf_shiftSub _ _ _ (by omega), byteOf_shiftRows_eq_shifted lo hi e hr hc]

theorem byteOf_column_shiftSub (lo hi : Word64) (e : Bool) (r : Nat) {c : Nat} (hc : c < 2) :
    byteOf (r % 4) (column (shiftSub lo hi e) c) = substitute (shifted e lo hi r c) e := by
  have hr : r % 4 < 4 := Nat.mod_lt r (by decide)
  rw [byteOf_column _ hr hc, byteOf_shiftSub_eq_shifted lo hi e hr hc, shifted_mod]

/-! ### The 64-bit round operations (R76 to R79) -/

theorem aes64_es (rnum : BitVec 4) (a b : Word64) : aes64 (.round .es) rnum a b = shiftSub a b true := aes64_round .es rnum a b
theorem aes64_ds (rnum : BitVec 4) (a b : Word64) : aes64 (.round .ds) rnum a b = shiftSub a b false := aes64_round .ds rnum a b
theorem aes64_esm (rnum : BitVec 4) (a b : Word64) : aes64 (.round .esm) rnum a b = mixColumn64 (shiftSub a b true) true :=
  aes64_round .esm rnum a b
theorem aes64_dsm (rnum : BitVec 4) (a b : Word64) : aes64 (.round .dsm) rnum a b = mixColumn64 (shiftSub a b false) false :=
  aes64_round .dsm rnum a b

/-- Every byte of a zero state is substituted alike. -/
theorem shiftSub_zero (e : Bool) : shiftSub 0 0 e = if e then 0x6363636363636363 else 0x5252525252525252 := by
  cases e <;> decide +kernel

/-- The entries of a row of either matrix sum to 1, so a column of equal bytes is its own product. -/
theorem mixColumn64_shiftSub_zero (e : Bool) : mixColumn64 (shiftSub 0 0 e) e = shiftSub 0 0 e := by
  rw [shiftSub_zero]
  cases e <;> decide +kernel

/-- A byte after MixColumns: a row of the matrix times a column of the shifted and substituted state. -/
theorem byteOf_mixColumn64_shiftSub (lo hi : Word64) (e : Bool) {r c : Nat} (hr : r < 4) (hc : c < 2) :
    byteOf (r + 4 * c) (mixColumn64 (shiftSub lo hi e) e) =
      byteOf 0 (mixColumn8 (substitute (shifted e lo hi r c) e) e) ^^^
      byteOf 3 (mixColumn8 (substitute (shifted e lo hi (r + 1) c) e) e) ^^^
      byteOf 2 (mixColumn8 (substitute (shifted e lo hi (r + 2) c) e) e) ^^^
      byteOf 1 (mixColumn8 (substitute (shifted e lo hi (r + 3) c) e) e) := by
  have hbyte (k : Nat) := byteOf_column_shiftSub lo hi e k hc
  have hfirst := hbyte r
  rw [Nat.mod_eq_of_lt hr] at hfirst
  rw [← byteOf_column _ hr hc, column_mixColumn64, byteOf_mixColumn32_row _ _ hr, hfirst, hbyte, hbyte, hbyte]

/-- Settles O33: the datapath selects the shifted and substituted state. -/
theorem es64Result : Obligations.Es64Result := by
  refine ⟨⟨rfl, ctlFn_packCtl _ _ _ _⟩, fun s p hp => ⟨shiftSub p.rs1 p.rs2 true, ?_, fun h1 h2 => ?_,
    fun k => byteOf_shiftSub _ _ _, fun r hr c => byteOf_shiftSub_eq_shifted _ _ _ hr⟩⟩
  · rw [exec_es_64, drive64_x64 hp, aes64_es]
  · rw [h1, h2, shiftSub_zero]; rfl

/-- Settles O35: the datapath of ES with both directions turned. -/
theorem ds64Result : Obligations.Ds64Result := by
  refine ⟨⟨rfl, ctlFn_packCtl _ _ _ _⟩, fun s p hp => ⟨shiftSub p.rs1 p.rs2 false, ?_, fun h1 h2 => ?_,
    fun k => byteOf_shiftSub _ _ _, fun r hr c => byteOf_shiftSub_eq_shifted _ _ _ hr⟩⟩
  · rw [exec_ds_64, drive64_x64 hp, aes64_ds]
  · rw [h1, h2, shiftSub_zero]; rfl

/-- Settles O34: the multiples in a row are those of mixColumn8 for encrypt. -/
theorem esm64Result : Obligations.Esm64Result := by
  refine ⟨⟨rfl, ctlFn_packCtl _ _ _ _⟩, fun s p hp => ⟨_, shiftSub p.rs1 p.rs2 true, ?_, fun k => byteOf_shiftSub _ _ _, rfl,
    fun h1 h2 => ?_, fun r hr c hc => ?_⟩⟩
  · rw [exec_esm_64, drive64_x64 hp, aes64_esm]
  · rw [h1, h2, mixColumn64_shiftSub_zero, shiftSub_zero]; rfl
  · simp only [byteOf_mixColumn64_shiftSub _ _ _ hr hc, byteOf_mixColumn8_true, multiply_c2, multiply_c3]

/-- Settles O36: the multiples in a row are those of mixColumn8 for decrypt. -/
theorem dsm64Result : Obligations.Dsm64Result := by
  refine ⟨⟨rfl, ctlFn_packCtl _ _ _ _⟩, fun s p hp => ⟨_, shiftSub p.rs1 p.rs2 false, ?_, fun k => byteOf_shiftSub _ _ _, rfl,
    fun h1 h2 => ?_, fun r hr c hc => ?_⟩⟩
  · rw [exec_dsm_64, drive64_x64 hp, aes64_dsm]
  · rw [h1, h2, mixColumn64_shiftSub_zero, shiftSub_zero]; rfl
  · simp only [byteOf_mixColumn64_shiftSub _ _ _ hr hc, byteOf_mixColumn8_false, multiply_c9, multiply_cB, multiply_cD,
      multiply_cE]

/-! ### Running a form on given operands -/

/-- The result of a form that drives a function of the operands. -/
theorem run32_of_exec {i : Instr} {f : Word32 → Word32 → Word32} (h : ∀ s, exec i s = s.drive32 f) (s : State)
    (a b : Word32) : s.run32 i a b = some (f a b) := by
  rw [State.run32, h]; rfl

/-- The result of a form that drives a function of `rnum` and the operands. -/
theorem run64_of_exec {i : Instr} {f : BitVec 4 → Word64 → Word64 → Word64} (h : ∀ s, exec i s = s.drive64 (f s.rnum))
    (s : State) (a b : Word64) : s.run64 i a b = some (f s.rnum a b) := by
  rw [State.run64, h]; rfl

theorem run64_es (s : State) (a b : Word64) : s.run64 .es_64 a b = some (shiftSub a b true) :=
  (run64_of_exec exec_es_64 s a b).trans (by rw [aes64_es])
theorem run64_ds (s : State) (a b : Word64) : s.run64 .ds_64 a b = some (shiftSub a b false) :=
  (run64_of_exec exec_ds_64 s a b).trans (by rw [aes64_ds])
theorem run64_esm (s : State) (a b : Word64) : s.run64 .esm_64 a b = some (mixColumn64 (shiftSub a b true) true) :=
  (run64_of_exec exec_esm_64 s a b).trans (by rw [aes64_esm])
theorem run64_dsm (s : State) (a b : Word64) : s.run64 .dsm_64 a b = some (mixColumn64 (shiftSub a b false) false) :=
  (run64_of_exec exec_dsm_64 s a b).trans (by rw [aes64_dsm])
theorem run64_im (s : State) (a b : Word64) : s.run64 .im_64 a b = some (mixColumn64 a false) :=
  (run64_of_exec exec_im_64 s a b).trans (by rw [aes64_im])
theorem run64_ks1 (s : State) (rnum : BitVec 4) (a b : Word64) : s.run64 (.ks1_64 rnum) a b = some (aes64 .ks1 rnum a b) :=
  run64_of_exec (f := fun _ => aes64 .ks1 rnum) (exec_ks1_64 · rnum) s a b
theorem run64_ks2 (s : State) (a b : Word64) : s.run64 .ks2_64 a b =
    some (concat64 (hi32 a ^^^ lo32 b ^^^ hi32 b) (hi32 a ^^^ lo32 b)) :=
  (run64_of_exec exec_ks2_64 s a b).trans (by rw [aes64_ks2])

/-! ### IM and DS against the encryption forms (R80, R83) -/

/-- Settles O37: IM is InvMixColumns of `rs1`, and that undoes the MixColumns which ESM has and ES has not. -/
theorem im64Result : Obligations.Im64Result := by
  refine ⟨⟨rfl, ctlFn_packCtl _ _ _ _⟩, fun s p hp => ?_, fun s c => ?_, fun s a b c => ⟨_, run64_esm s a b, ?_⟩⟩
  · rw [exec_im_64, drive64_x64 hp, aes64_im]; rfl
  · have hzero : mixColumn64 0 false = 0 := by decide +kernel
    rw [run64_im, hzero]
  · have hundo : mixColumn64 (mixColumn64 (shiftSub a b true) true) false = shiftSub a b true := mixColumn64_mixColumn64_not _ true
    rw [run64_im, run64_es, hundo]

@[simp] theorem substitute_substitute_not (b : Byte) (e : Bool) : substitute (substitute b e) (!e) = b := by
  cases e
  · exact substitute_true_substitute_false b
  · exact substitute_false_substitute_true b

/-- Substituting the bytes of both halves substitutes every byte of the state. -/
theorem stateByte_substituteBytes (lo hi : Word64) (e : Bool) {k : Nat} (hk : k < 16) :
    stateByte (substituteBytes lo e) (substituteBytes hi e) k = substitute (stateByte lo hi k) e := by
  unfold stateByte
  split
  · exact byteOf_substituteBytes _ _ _ ‹_›
  · exact byteOf_substituteBytes _ _ _ (by omega)

/-- The bytewise substitution commutes with ShiftRows, so the two directions undo each other over the full state. -/
theorem shiftSub_not_shiftSub (lo hi : Word64) (e : Bool) : shiftSub (shiftSub lo hi e) (shiftSub hi lo e) (!e) = lo := by
  refine ext_bytes64 fun k hk => ?_
  have hk16 : shiftRowsIndex (!e) k < 16 := by
    rw [shiftRowsIndex_eq]; exact Nat.mod_lt _ (by decide)
  calc byteOf k (shiftSub (shiftSub lo hi e) (shiftSub hi lo e) (!e))
    _ = substitute (stateByte (shiftSub lo hi e) (shiftSub hi lo e) (shiftRowsIndex (!e) k)) (!e) := by
      rw [byteOf_shiftSub _ _ _ hk, byteOf_shiftRows _ _ _ _ hk]
    _ = stateByte (shiftRows lo hi e) (shiftRows hi lo e) (shiftRowsIndex (!e) k) := by
      rw [shiftSub, shiftSub, stateByte_substituteBytes _ _ _ hk16, substitute_substitute_not]
    _ = byteOf k lo := by rw [← byteOf_shiftRows _ _ _ _ hk, shiftRows_not_shiftRows]

/-- Settles O53: the two halves of ES are the shifted and substituted state, which DS takes back. -/
theorem dsUndoesEsOnTheFullState : Obligations.DsUndoesEsOnTheFullState := by
  intro s lo hi
  refine ⟨_, _, run64_es s lo hi, run64_es s hi lo, ?_, ?_⟩
  · rw [run64_ds]; exact congrArg some (shiftSub_not_shiftSub lo hi true)
  · rw [run64_ds]; exact congrArg some (shiftSub_not_shiftSub hi lo true)

/-! ### The key schedule (R81, R82) -/

/-- KS1 with a rotating round index. -/
theorem aes64_ks1_of_ne_ten {rnum : BitVec 4} (h : rnum ≠ 10) (a b : Word64) : aes64 .ks1 rnum a b =
    concat64 (subWord (rotr (hi32 a) 8) ^^^ (rcon rnum).zeroExtend 32)
      (subWord (rotr (hi32 a) 8) ^^^ (rcon rnum).zeroExtend 32) := by
  rw [aes64_ks1, lo32_substituteBytes_zeroExtend, ks1Word, if_neg h]

@[simp] theorem lo32_append (hi lo : Word32) : lo32 (hi ++ lo) = lo := lo32_concat64 hi lo
@[simp] theorem hi32_append (hi lo : Word32) : hi32 (hi ++ lo) = hi := hi32_concat64 hi lo

/-- Settles O54: KS1 gives the word that w0 is XORed with, and each KS2 continues the chain by two words. -/
theorem keyScheduleExpandsOneRound : Obligations.KeyScheduleExpandsOneRound := by
  intro s w0 w1 w2 w3 rnum y hrnum
  refine ⟨_, _, _, _, _, rfl, rfl, rfl, rfl, run64_ks1 s rnum _ _, ?_, ?_⟩
  · simp only [run64_ks2, aes64_ks1_of_ne_ten hrnum, hi32_concat64, hi32_append, lo32_append]
    exact congrArg some (congrArg₂ concat64 (by ac_rfl) (by ac_rfl))
  · simp only [run64_ks2, hi32_append, lo32_append]
    exact congrArg some (congrArg₂ concat64 (by ac_rfl) (by ac_rfl))

/-! ### The 32-bit round operations (R69 to R73) -/

/-- The column of substituted bytes that takes byte `k` from column `ck`. -/
def subColumn (e : Bool) (c0 c1 c2 c3 : Word32) : Word32 :=
  word4 #v[substitute (byteOf 0 c0) e, substitute (byteOf 1 c1) e, substitute (byteOf 2 c2) e, substitute (byteOf 3 c3) e]

section Fold

variable {form : BitVec 2 → Instr} {op : RoundOp} (s : State) (acc c0 c1 c2 c3 : Word32)

/-- Four evaluations XOR four rotated words into the accumulator. -/
theorem foldColumn_round (hform : ∀ s bs, exec (form bs) s = s.drive32 (aes32 op bs)) :
    s.foldColumn form acc c0 c1 c2 c3 = some (aes32 op 3 (aes32 op 2 (aes32 op 1 (aes32 op 0 acc c0) c1) c2) c3) := by
  have hrun (bs : BitVec 2) (a b : Word32) : s.run32 (form bs) a b = some (aes32 op bs a b) := run32_of_exec (hform · bs) s a b
  simp only [State.foldColumn, hrun]

/-- Without MixColumn they are the substituted bytes in place: together the column of them. -/
theorem foldColumn_of_not_mixes (hform : ∀ s bs, exec (form bs) s = s.drive32 (aes32 op bs)) (hop : roundMixes op = false) :
    s.foldColumn form acc c0 c1 c2 c3 = some (acc ^^^ subColumn (roundEncrypts op) c0 c1 c2 c3) := by
  rw [foldColumn_round s acc c0 c1 c2 c3 hform]
  simp only [aes32_eq_xor_rotl, hop, Bool.false_eq_true, if_false, BitVec.xor_assoc, subColumn, ← xor_rotl_zeroExtend_bytes]
  rfl

/-- With MixColumn they are the four terms of mixColumn32 of that column. -/
theorem foldColumn_of_mixes (hform : ∀ s bs, exec (form bs) s = s.drive32 (aes32 op bs)) (hop : roundMixes op = true) :
    s.foldColumn form acc c0 c1 c2 c3 =
      some (acc ^^^ mixColumn32 (subColumn (roundEncrypts op) c0 c1 c2 c3) (roundEncrypts op)) := by
  rw [foldColumn_round s acc c0 c1 c2 c3 hform]
  simp only [aes32_eq_xor_rotl, hop, if_true, BitVec.xor_assoc, subColumn, mixColumn32_eq, byteOf_word4, Nat.reduceLT]
  rfl

theorem foldColumn_es : s.foldColumn .es_32 acc c0 c1 c2 c3 = some (acc ^^^ subColumn true c0 c1 c2 c3) :=
  foldColumn_of_not_mixes (op := .es) _ _ _ _ _ _ exec_es_32 rfl
theorem foldColumn_ds : s.foldColumn .ds_32 acc c0 c1 c2 c3 = some (acc ^^^ subColumn false c0 c1 c2 c3) :=
  foldColumn_of_not_mixes (op := .ds) _ _ _ _ _ _ exec_ds_32 rfl
theorem foldColumn_esm : s.foldColumn .esm_32 acc c0 c1 c2 c3 = some (acc ^^^ mixColumn32 (subColumn true c0 c1 c2 c3) true) :=
  foldColumn_of_mixes (op := .esm) _ _ _ _ _ _ exec_esm_32 rfl
theorem foldColumn_dsm : s.foldColumn .dsm_32 acc c0 c1 c2 c3 = some (acc ^^^ mixColumn32 (subColumn false c0 c1 c2 c3) false) :=
  foldColumn_of_mixes (op := .dsm) _ _ _ _ _ _ exec_dsm_32 rfl

end Fold

/-- Byte `bs + j` (mod 4) of a round operation with MixColumn (R71, R73). -/
theorem byteOf_aes32_of_mixes {op : RoundOp} (hop : roundMixes op = true) (bs : BitVec 2) (a b : Word32) (j : Nat) (hj : j < 4) :
    byteOf ((bs.toNat + j) % 4) (aes32 op bs a b) = byteOf ((bs.toNat + j) % 4) a ^^^
      byteOf j (mixColumn8 (substitute (byteOf bs.toNat b) (roundEncrypts op)) (roundEncrypts op)) := by
  have hb : bs.toNat < 4 := bs.isLt
  rw [byteOf_aes32 _ _ _ _ _ (Nat.mod_lt _ (by decide)), if_pos hop, show ((bs.toNat + j) % 4 + (4 - bs.toNat)) % 4 = j by omega]

/-- Settles O30: the bytes of the rotated column are the four multiples. -/
theorem dsm32Result : Obligations.Dsm32Result := by
  refine ⟨fun bs => ⟨rfl, ctlFn_packCtl _ _ _ _⟩, fun s p bs hp =>
    ⟨_, _, rfl, drive32_x32 hp _, aes32_eq_xor_rotl .dsm bs p.rs1 p.rs2, fun h0 => ?_, ?_⟩⟩
  · rw [h0]; simp [substitute_zero_false]
  · have hbyte := byteOf_aes32_of_mixes (op := .dsm) rfl bs p.rs1 p.rs2
    obtain ⟨m0, m1, m2, m3⟩ := byteOf_mixColumn8_false (substitute (byteOf bs.toNat p.rs2) false)
    rw [← multiply_cE, ← multiply_c9, ← multiply_cD, ← multiply_cB, ← m0, ← m1, ← m2, ← m3]
    exact ⟨hbyte 0 (by decide), hbyte 1 (by decide), hbyte 2 (by decide), hbyte 3 (by decide)⟩

/-- Settles O32: the bytes of the rotated column are the four multiples, and the columns of four bytes add up to the product with
the matrix. -/
theorem esm32Result : Obligations.Esm32Result := by
  refine ⟨fun bs => ⟨rfl, ctlFn_packCtl _ _ _ _⟩, foldColumn_esm, fun s p bs hp =>
    ⟨_, _, rfl, drive32_x32 hp _, aes32_eq_xor_rotl .esm bs p.rs1 p.rs2, ?_⟩⟩
  have hbyte := byteOf_aes32_of_mixes (op := .esm) rfl bs p.rs1 p.rs2
  obtain ⟨m0, m1, m2, m3⟩ := byteOf_mixColumn8_true (substitute (byteOf bs.toNat p.rs2) true)
  rw [← multiply_c2, ← multiply_c3, ← m0, ← m3]
  exact ⟨hbyte 0 (by decide), (hbyte 1 (by decide)).trans (congrArg _ m1), (hbyte 2 (by decide)).trans (congrArg _ m2),
    hbyte 3 (by decide)⟩

/-- The forward substitution of the zero byte (R58, R59). -/
theorem substitute_zero_true : substitute 0#8 true = 0x63 := by decide

/-- Settles O31: the bytes of the rotated word are 0 except byte `bs`, and four of these words add up to SubWord. -/
theorem es32Result : Obligations.Es32Result := by
  refine ⟨fun bs => ⟨rfl, ctlFn_packCtl _ _ _ _⟩, fun s p bs hp => ?_, fun s acc w => foldColumn_es s acc w w w w⟩
  have hrd := aes32_eq_xor_rotl .es bs p.rs1 p.rs2
  refine ⟨aes32 .es bs p.rs1 p.rs2, drive32_x32 hp _, hrd, byteOf_aes32 .es bs p.rs1 p.rs2, fun h0 => ?_⟩
  have hso : substitute (byteOf bs.toNat p.rs2) true = 0x63 := by simp [h0, substitute_zero_true]
  calc aes32 .es bs p.rs1 p.rs2
    _ = p.rs1 ^^^ rotl ((substitute (byteOf bs.toNat p.rs2) true).zeroExtend 32) (8 * bs.toNat) := hrd
    _ = p.rs1 ^^^ ((0x63 : Word32) <<< (8 * bs.toNat)) := by rw [hso, rotl_zeroExtend_byte _ bs.isLt]; rfl

/-! ### A round at both widths -/

/-- Byte `r` of column `c` of the state, given by its four columns. -/
theorem stateByte_append (c0 c1 c2 c3 : Word32) {r c : Nat} (hr : r < 4) (hc : c < 4) :
    stateByte (c1 ++ c0) (c3 ++ c2) (r + 4 * c) = byteOf r #v[c0, c1, c2, c3][c] := by
  have hlow (hi lo : Word32) : byteOf r (concat64 hi lo) = byteOf r lo := by rw [← byteOf_lo32 _ _ hr, lo32_concat64]
  have hhigh (hi lo : Word32) : byteOf (r + 4) (concat64 hi lo) = byteOf r hi := by rw [← byteOf_hi32 _ _ hr, hi32_concat64]
  unfold stateByte
  obtain rfl | rfl | rfl | rfl : c = 0 ∨ c = 1 ∨ c = 2 ∨ c = 3 := by omega
  · rw [if_pos (by omega)]; exact hlow _ _
  · rw [if_pos (by omega)]; exact hhigh _ _
  · rw [if_neg (by omega), show r + 4 * 2 - 8 = r by omega]; exact hlow _ _
  · rw [if_neg (by omega), show r + 4 * 3 - 8 = r + 4 by omega]; exact hhigh _ _

section Columns

variable (c0 c1 c2 c3 : Word32)

/-- The columns that the rows of one column of the shifted state come from. -/
theorem column_shiftSub (e : Bool) {c : Nat} (hc : c < 2) :
    column (shiftSub (c1 ++ c0) (c3 ++ c2) e) c = word4 (Vector.ofFn fun r => substitute (byteOf r.val
      (#v[c0, c1, c2, c3][if e then (c + r.val) % 4 else (c + 4 - r.val) % 4]'(by split <;> omega))) e) := by
  refine ext_bytes32 fun r hr => ?_
  rw [byteOf_column _ hr hc, byteOf_shiftSub_eq_shifted _ _ _ hr hc, byteOf_word4 _ _ hr, Vector.getElem_ofFn, shifted,
    Nat.mod_eq_of_lt hr, stateByte_append _ _ _ _ hr (by split <;> omega)]

theorem lo32_shiftSub_true : lo32 (shiftSub (c1 ++ c0) (c3 ++ c2) true) = subColumn true c0 c1 c2 c3 :=
  column_shiftSub c0 c1 c2 c3 true (c := 0) (by decide)
theorem hi32_shiftSub_true : hi32 (shiftSub (c1 ++ c0) (c3 ++ c2) true) = subColumn true c1 c2 c3 c0 :=
  column_shiftSub c0 c1 c2 c3 true (c := 1) (by decide)
theorem lo32_shiftSub_false : lo32 (shiftSub (c1 ++ c0) (c3 ++ c2) false) = subColumn false c0 c3 c2 c1 :=
  column_shiftSub c0 c1 c2 c3 false (c := 0) (by decide)
theorem hi32_shiftSub_false : hi32 (shiftSub (c1 ++ c0) (c3 ++ c2) false) = subColumn false c1 c0 c3 c2 :=
  column_shiftSub c0 c1 c2 c3 false (c := 1) (by decide)

end Columns

/-- Settles O55: ShiftRows picks the columns in this order for the bytes of each half, and MixColumn acts on a half alone. -/
theorem encryptRoundAgreesAcrossWidths : Obligations.EncryptRoundAgreesAcrossWidths := by
  intro s acc c0 c1 c2 c3 f hf
  simp only [List.mem_cons, List.not_mem_nil, or_false] at hf
  obtain rfl | rfl := hf
  · refine ⟨_, run64_es s _ _, ?_, ?_⟩
    · rw [foldColumn_es, lo32_shiftSub_true]
    · rw [foldColumn_es, hi32_shiftSub_true]
  · refine ⟨_, run64_esm s _ _, ?_, ?_⟩
    · rw [foldColumn_esm, lo32_mixColumn64, lo32_shiftSub_true]
    · rw [foldColumn_esm, hi32_mixColumn64, hi32_shiftSub_true]

/-- Settles O56: InvShiftRows picks the columns the other way round, and InvMixColumn acts on a half alone. -/
theorem decryptRoundAgreesAcrossWidths : Obligations.DecryptRoundAgreesAcrossWidths := by
  intro s acc c0 c1 c2 c3 f hf
  simp only [List.mem_cons, List.not_mem_nil, or_false] at hf
  obtain rfl | rfl := hf
  · refine ⟨_, run64_ds s _ _, ?_, ?_⟩
    · rw [foldColumn_ds, lo32_shiftSub_false]
    · rw [foldColumn_ds, hi32_shiftSub_false]
  · refine ⟨_, run64_dsm s _ _, ?_, ?_⟩
    · rw [foldColumn_dsm, lo32_mixColumn64, lo32_shiftSub_false]
    · rw [foldColumn_dsm, hi32_mixColumn64, hi32_shiftSub_false]

end Sys2Proof.Machine

/-! PROOFS. The statement of 42_sha2.md R97: the two-register SHA-512 forms at XLEN = 32 compose to the XLEN = 64 functions. A rotation
or a shift of a 64-bit word is, in each half, an XOR of shifts of the two halves, and the formulas of R93 to R96 are these. -/

namespace Sys2Proof.Machine

/-! ### Halves of a rotation and of a shift -/

@[simp] theorem lo32_xor (a b : Word64) : lo32 (a ^^^ b) = lo32 a ^^^ lo32 b := BitVec.extractLsb'_xor
@[simp] theorem hi32_xor (a b : Word64) : hi32 (a ^^^ b) = hi32 a ^^^ hi32 b := BitVec.extractLsb'_xor

/-- Bits that come from a word shifted right and, above them, from another shifted left. -/
theorem getLsbD_shiftRight_xor_shiftLeft (a b : Word32) {n i : Nat} (hn : n ≤ 32) (hi : i < 32) :
    ((a >>> n) ^^^ (b <<< (32 - n))).getLsbD i = if i + n < 32 then a.getLsbD (i + n) else b.getLsbD (i + n - 32) := by
  rw [BitVec.getLsbD_xor, getLsbD_shiftRight_add, getLsbD_shiftLeft_sub _ _ hi]
  split
  · simp [show ¬ 32 - n ≤ i by omega]
  · rw [BitVec.getLsbD_of_ge a _ (by omega), show i + n - 32 = i - (32 - n) by omega]
    simp [show 32 - n ≤ i by omega]

/-- Bit `i` of a 64-bit word, in the half it lies in. -/
theorem getLsbD_halves (x : Word64) (i : Nat) : x.getLsbD i = if i < 32 then (lo32 x).getLsbD i else (hi32 x).getLsbD (i - 32) := by
  rw [← getLsbD_concat64, concat64_halves]

/-- The low half of a rotation right by at most 32. -/
theorem lo32_rotr (x : Word64) {n : Nat} (hn : n ≤ 32) : lo32 (rotr x n) = (lo32 x >>> n) ^^^ (hi32 x <<< (32 - n)) := by
  refine BitVec.eq_of_getLsbD_eq fun i hi => ?_
  rw [getLsbD_lo32 _ _ hi, getLsbD_rotr _ _ _ (by omega), Nat.mod_eq_of_lt (by omega), getLsbD_halves,
    getLsbD_shiftRight_xor_shiftLeft _ _ hn hi]

/-- The high half of a rotation right by at most 32. -/
theorem hi32_rotr (x : Word64) {n : Nat} (hn : n ≤ 32) : hi32 (rotr x n) = (hi32 x >>> n) ^^^ (lo32 x <<< (32 - n)) := by
  refine BitVec.eq_of_getLsbD_eq fun i hi => ?_
  rw [getLsbD_hi32 _ _ hi, getLsbD_rotr _ _ _ (by omega), getLsbD_halves, getLsbD_shiftRight_xor_shiftLeft _ _ hn hi]
  by_cases h : i + n < 32
  · rw [if_neg (by omega), if_pos h, show (32 + i + n) % 64 - 32 = i + n by omega]
  · rw [if_pos (by omega), if_neg h, show (32 + i + n) % 64 = i + n - 32 by omega]

/-- Rotating 32 bits further exchanges the halves of the result. -/
theorem lo32_rotr_add_32 (x : Word64) (n : Nat) : lo32 (rotr x (n + 32)) = hi32 (rotr x n) := by
  refine BitVec.eq_of_getLsbD_eq fun i hi => ?_
  rw [getLsbD_lo32 _ _ hi, getLsbD_hi32 _ _ hi, getLsbD_rotr _ _ _ (by omega), getLsbD_rotr _ _ _ (by omega),
    show i + (n + 32) = 32 + i + n by omega]

theorem hi32_rotr_add_32 (x : Word64) (n : Nat) : hi32 (rotr x (n + 32)) = lo32 (rotr x n) := by
  refine BitVec.eq_of_getLsbD_eq fun i hi => ?_
  rw [getLsbD_lo32 _ _ hi, getLsbD_hi32 _ _ hi, getLsbD_rotr _ _ _ (by omega), getLsbD_rotr _ _ _ (by omega),
    show (32 + i + (n + 32)) % 64 = (i + n) % 64 by omega]

/-- The halves of a rotation right by 32 or more. -/
theorem lo32_rotr_of_ge (x : Word64) {n : Nat} (hge : 32 ≤ n) (hn : n ≤ 64) :
    lo32 (rotr x n) = (hi32 x >>> (n - 32)) ^^^ (lo32 x <<< (64 - n)) := by
  obtain ⟨m, rfl⟩ := Nat.exists_eq_add_of_le' hge
  rw [lo32_rotr_add_32, hi32_rotr x (by omega), Nat.add_sub_cancel, show 64 - (m + 32) = 32 - m by omega]

theorem hi32_rotr_of_ge (x : Word64) {n : Nat} (hge : 32 ≤ n) (hn : n ≤ 64) :
    hi32 (rotr x n) = (lo32 x >>> (n - 32)) ^^^ (hi32 x <<< (64 - n)) := by
  obtain ⟨m, rfl⟩ := Nat.exists_eq_add_of_le' hge
  rw [hi32_rotr_add_32, lo32_rotr x (by omega), Nat.add_sub_cancel, show 64 - (m + 32) = 32 - m by omega]

theorem lo32_shiftRight (x : Word64) {n : Nat} (hn : n ≤ 32) : lo32 (x >>> n) = (lo32 x >>> n) ^^^ (hi32 x <<< (32 - n)) := by
  refine BitVec.eq_of_getLsbD_eq fun i hi => ?_
  rw [getLsbD_lo32 _ _ hi, getLsbD_shiftRight_add, getLsbD_halves, getLsbD_shiftRight_xor_shiftLeft _ _ hn hi]

theorem hi32_shiftRight (x : Word64) (n : Nat) : hi32 (x >>> n) = hi32 x >>> n := by
  refine BitVec.eq_of_getLsbD_eq fun i hi => ?_
  rw [getLsbD_hi32 _ _ hi, getLsbD_shiftRight_add, getLsbD_shiftRight_add, getLsbD_halves, if_neg (by omega),
    show 32 + i + n - 32 = i + n by omega]

/-! ### The 64-bit functions by halves (R89 to R96)

The two sides are the same XOR of shifts, in another order; `ac_rfl` would compare the shifts by evaluating them. -/

theorem lo32_sha512Sig0 (x : Word64) : lo32 (sha512Sig0 x) = sha512Sig0Half false (lo32 x) (hi32 x) := by
  simp (disch := decide) only [sha512Sig0, sha512Sig0Half, lo32_xor, lo32_rotr, lo32_shiftRight, Bool.false_eq_true, if_false,
    Nat.reduceSub, BitVec.xor_assoc, BitVec.xor_comm, xor_left_comm]

theorem hi32_sha512Sig0 (x : Word64) : hi32 (sha512Sig0 x) = sha512Sig0Half true (hi32 x) (lo32 x) := by
  simp (disch := decide) only [sha512Sig0, sha512Sig0Half, hi32_xor, hi32_rotr, hi32_shiftRight, if_true, Nat.reduceSub,
    BitVec.xor_assoc, BitVec.xor_comm, xor_left_comm]

theorem lo32_sha512Sig1 (x : Word64) : lo32 (sha512Sig1 x) = sha512Sig1Half false (lo32 x) (hi32 x) := by
  simp (disch := decide) only [sha512Sig1, sha512Sig1Half, lo32_xor, lo32_rotr, lo32_rotr_of_ge, lo32_shiftRight,
    Bool.false_eq_true, if_false, Nat.reduceSub, BitVec.xor_assoc, BitVec.xor_comm, xor_left_comm]

theorem hi32_sha512Sig1 (x : Word64) : hi32 (sha512Sig1 x) = sha512Sig1Half true (hi32 x) (lo32 x) := by
  simp (disch := decide) only [sha512Sig1, sha512Sig1Half, hi32_xor, hi32_rotr, hi32_rotr_of_ge, hi32_shiftRight, if_true,
    Nat.reduceSub, BitVec.xor_assoc, BitVec.xor_comm, xor_left_comm]

theorem lo32_sha512Sum0 (x : Word64) : lo32 (sha512Sum0 x) = sha512Sum0Half (lo32 x) (hi32 x) := by
  simp (disch := decide) only [sha512Sum0, sha512Sum0Half, lo32_xor, lo32_rotr, lo32_rotr_of_ge, Nat.reduceSub,
    BitVec.xor_assoc, BitVec.xor_comm, xor_left_comm]

theorem hi32_sha512Sum0 (x : Word64) : hi32 (sha512Sum0 x) = sha512Sum0Half (hi32 x) (lo32 x) := by
  simp (disch := decide) only [sha512Sum0, sha512Sum0Half, hi32_xor, hi32_rotr, hi32_rotr_of_ge, Nat.reduceSub,
    BitVec.xor_assoc, BitVec.xor_comm, xor_left_comm]

theorem lo32_sha512Sum1 (x : Word64) : lo32 (sha512Sum1 x) = sha512Sum1Half (lo32 x) (hi32 x) := by
  simp (disch := decide) only [sha512Sum1, sha512Sum1Half, lo32_xor, lo32_rotr, lo32_rotr_of_ge, Nat.reduceSub,
    BitVec.xor_assoc, BitVec.xor_comm, xor_left_comm]

theorem hi32_sha512Sum1 (x : Word64) : hi32 (sha512Sum1 x) = sha512Sum1Half (hi32 x) (lo32 x) := by
  simp (disch := decide) only [sha512Sum1, sha512Sum1Half, hi32_xor, hi32_rotr, hi32_rotr_of_ge, Nat.reduceSub,
    BitVec.xor_assoc, BitVec.xor_comm, xor_left_comm]

/-- Two 32-bit forms that drive the halves of what a 64-bit form drives compose to it. -/
theorem run64_of_halves {i j k : Instr} {l h : Word32 → Word32 → Word32} {g : Word64 → Word64}
    (hi : ∀ s, exec i s = s.drive32 l) (hj : ∀ s, exec j s = s.drive32 h) (hk : ∀ s, exec k s = s.drive64 fun x _ => g x)
    (hl : ∀ x, lo32 (g x) = l (lo32 x) (hi32 x)) (hh : ∀ x, hi32 (g x) = h (hi32 x) (lo32 x)) (s : State) (x y : Word64) :
    ∃ a b, s.run32 i (lo32 x) (hi32 x) = some a ∧ s.run32 j (hi32 x) (lo32 x) = some b ∧ s.run64 k x y = some (b ++ a) := by
  refine ⟨_, _, run32_of_exec hi s _ _, run32_of_exec hj s _ _, ?_⟩
  rw [run64_of_exec (f := fun _ x _ => g x) hk, ← hl, ← hh]
  exact congrArg some (concat64_halves (g x)).symm

/-- Settles O52: the halves of each 64-bit function are the two-register functions of the halves. -/
theorem sha512HalvesComposeTo64 : Obligations.Sha512HalvesComposeTo64 := by
  intro s x y f hf
  simp only [List.mem_cons, List.not_mem_nil, or_false] at hf
  obtain rfl | rfl | rfl | rfl := hf
  · exact run64_of_halves exec_sha512sig0l_32 exec_sha512sig0h_32 exec_sha512sig0_64 lo32_sha512Sig0 hi32_sha512Sig0 s x y
  · exact run64_of_halves exec_sha512sig1l_32 exec_sha512sig1h_32 exec_sha512sig1_64 lo32_sha512Sig1 hi32_sha512Sig1 s x y
  · exact run64_of_halves exec_sha512sum0r_32 exec_sha512sum0r_32 exec_sha512sum0_64 lo32_sha512Sum0 hi32_sha512Sum0 s x y
  · exact run64_of_halves exec_sha512sum1r_32 exec_sha512sum1r_32 exec_sha512sum1_64 lo32_sha512Sum1 hi32_sha512Sum1 s x y

end Sys2Proof.Machine
